-- ==== Sys2Proof/Word.lean ====
section
/-!
DEFINITION. The words of the part: a byte of a frame, a station number, and a group of four like things
(cassette slots, alarm loops, pocket places).
-/

namespace Sys2Proof

/-- A byte of a frame payload or of the imprint raster (R179: 8 bits). -/
abbrev Byte := BitVec 8

/-- A station number as the four bits of a header field or of the STN strap carry it: 0, 13 and 14 are
consoles, 1 to 12 lanes, 15 every station (R159, R181). -/
abbrev Station := BitVec 4

/-- One of four numbered things: a cassette slot, an alarm loop, a pocket place. -/
inductive Slot where
  | one | two | three | four
deriving DecidableEq, Repr

/-- The number 1 to 4 the spec gives a slot. -/
def Slot.number : Slot → Nat
  | .one => 1
  | .two => 2
  | .three => 3
  | .four => 4

/-- The four slots in slot order. -/
def Slot.all : List Slot := [.one, .two, .three, .four]

/-- The slot of a number, none outside 1 to 4. -/
def Slot.ofNumber : Nat → Option Slot
  | 1 => some .one
  | 2 => some .two
  | 3 => some .three
  | 4 => some .four
  | _ => none

/-- Four values, one for each slot. -/
structure Four (α : Type) where
  one   : α
  two   : α
  three : α
  four  : α
deriving DecidableEq, Repr

namespace Four

/-- The value of a slot. -/
def get {α : Type} (v : Four α) : Slot → α
  | .one => v.one
  | .two => v.two
  | .three => v.three
  | .four => v.four

/-- The four values with one slot's replaced. -/
def set {α : Type} (v : Four α) (k : Slot) (x : α) : Four α :=
  match k with
  | .one => { v with one := x }
  | .two => { v with two := x }
  | .three => { v with three := x }
  | .four => { v with four := x }

/-- One slot's value changed by a function. -/
def modify {α : Type} (v : Four α) (k : Slot) (f : α → α) : Four α := v.set k (f (v.get k))

/-- The same value four times. -/
def replicate {α : Type} (x : α) : Four α := ⟨x, x, x, x⟩

/-- The four values in slot order. -/
def toList {α : Type} (v : Four α) : List α := [v.one, v.two, v.three, v.four]

end Four

end Sys2Proof
end

