-- ==== Sys2Proof/Config.lean ====
section
/-!
DEFINITION. The constants the spec fixes for every part, and the free values: what the spec leaves open, with no
body, so that nothing can be proved about one value of it.
-/

namespace Sys2Proof.Config

/-- DESIGN CHOICE, safe (log 9): the 5 × 7 shape of a digit's glyph is "fixed in the part" (R102) and not given.
Bits 0 to 6 of column `col` (0-4) of the glyph of `digit` (0-9). -/
opaque glyphColumn (digit col : Nat) : BitVec 7

/-- DESIGN CHOICE, safe (log 10): whether a remaining time that is no whole number of the reported unit is
reported rounded up; the spec says only that the remaining time is reported in that unit (R71, R88, R126, R156). -/
opaque roundsUp (milliseconds : Nat) : Bool

/-- DESIGN CHOICE, safe (log 11): the view taken from a STATUS whose known capture count is above 1,000, a
count no lane sends; it is kept within the view's range (R122). -/
opaque viewOutOfRange (carried : Nat) : Nat

/-- DESIGN CHOICE, safe (log 12): whether a return that jams with more covered places than records leaves the
envelope in the pocket; R113 states only as many and fewer. -/
opaque returnStays (covered records : Nat) : Bool

/-- Exposure and dispense amounts lie at or below this (R12, R45, R127). -/
def maxAmount : Nat := 16777215
/-- The largest capture-bin view (R122). -/
def maxView : Nat := 1000
/-- The largest sequence number (R94). -/
def maxSequence : Nat := 999999
/-- A count estimate never exceeds this (R1). -/
def maxCount : Nat := 3000
/-- The reject events a dispense may count (R53). -/
def maxRejectEvents : Nat := 12
/-- Positions of the reply/event FIFO (R169). -/
def fifoPositions : Nat := 8
/-- The void count at which the BIU enters QUIET (R168). -/
def voidLimit : Nat := 16
/-- Places of the pocket (R109). -/
def pocketPlaces : Nat := 4

/-- The pulses of the mispick window (R27). -/
def mispickPulses : Nat := 120
/-- The pulses before a gate opens (R23, R29). -/
def gateLead : Nat := 16
/-- The pulses within which an exit must be reached (R36). -/
def exitPulses : Nat := 80
/-- The pulses for which an exit sensor may stay covered (R36). -/
def blockedPulses : Nat := 200
/-- The pulses for which a purge run's path must stay clear (R41). -/
def purgeClearPulses : Nat := 400
/-- A change of the intake sensor counts with the second pulse at the new level; its position is the first, this many
pulses before (R90). -/
def sensorLag : Nat := 1
/-- The pulses for which the intake sensor must stay clear at the end of a run (R97, R99, R107). -/
def clearPulses : Nat := 60
/-- The pulses an item has to reach the intake sensor (R93). -/
def drawPulses : Nat := 200
/-- The pulse since the leading edge at which the print window opens (R94). -/
def windowPulse : Nat := 40
/-- The columns of the raster and of a print window (R100, R103). -/
def columns : Nat := 96
/-- The shortest accepted envelope (R95). -/
def minLength : Nat := 180
/-- The longest accepted envelope (R95). -/
def maxLength : Nat := 520
/-- The pulses an accepted envelope has to seat (R96). -/
def seatPulses : Nat := 160
/-- The pulses a reversal, an eject or a clear run may take (R97, R99, R107). -/
def reversePulses : Nat := 1200

end Sys2Proof.Config
end

