-- ==== Sys2Proof/Syntax.lean ====
section
/-!
DEFINITION. The commands of the block: one constructor of `Instr` for each row of spec/opcode_table.json, with what
the step's rules read from outside as its operands (log 4, 5: the table gives its rows no fields).
-/

namespace Sys2Proof

/-- A side of the note path's exit: where the diverter stands, or which exit sensor became covered (R36). -/
inductive Side where
  | stacker | reject
deriving DecidableEq, Repr

/-- The class of a supervised loop (R143). -/
inductive LoopClass where
  | normal | opened | short
deriving DecidableEq, Repr

/-- What a station finds wrong on the line: a form error inside a frame, a form error on an idle line, or, as a
sender, a bit error of its own frame (R162, R163). -/
inductive LineError where
  | inFrame | onIdleLine | bitError
deriving DecidableEq, Repr

/-- The levels of the input lines whose changes have no step of their own in the table, as they stand when a step
reads them (DESIGN CHOICE, log 5): the imprint head's HOT line, the drawer's home and extended switches, the pocket's
occupancy sensors PKT1 to PKT4 and the comparator class of each alarm loop. -/
structure Lines where
  hot         : Bool
  home        : Bool
  ext         : Bool
  places      : Four Bool
  comparators : Four LoopClass
deriving DecidableEq, Repr

/-- Every line inactive and every comparator NORMAL. -/
def Lines.quiet : Lines :=
  { hot := false, home := false, ext := false, places := Four.replicate false,
    comparators := Four.replicate .normal }

/-- A frame as a receiver has sampled it (R159, R172): header fields, payload, the sixteen CRC bits on the line, and
whether the station found a form error in its bits, beside what the length field shows. -/
structure RxFrame where
  cls       : BitVec 3
  source    : Station
  dest      : Station
  kind      : BitVec 7
  length    : BitVec 6
  payload   : List Byte
  crc       : BitVec 16
  formError : Bool
deriving DecidableEq, Repr

/-- What the note path's encoder and exit sensors have shown since the path's previous command (log 4): the pulses, and
for an exit sensor that stood covered and has cleared, how many of these pulses have been counted since. -/
structure PathCount where
  pulses   : Nat
  clearedS : Option Nat
  clearedR : Option Nat
deriving DecidableEq, Repr

/-- Pulses with no exit sensor clearing meanwhile. -/
def PathCount.plain (pulses : Nat) : PathCount := { pulses := pulses, clearedS := none, clearedR := none }

/-- The steps of the part, one for each row of spec/opcode_table.json, in the table's order.

Operands: `frame` is a frame as this station sampled it; `source` and `payload` are those of a command frame in force;
`path` and `pulses` count the encoder pulses of the note path and of the intake since that path's previous command;
`lines` are the levels of the lines that have no step of their own; `heard` says whether the ACK slot of the station's own
frame was driven. The frame of FRAME_VOIDED is absent where it was the station's own, or broke off before its slots. -/
inductive Instr where
  | powerReset (station : Station) (slow : Bool)
  | joinBus
  | drawerSwitchesSettled (home ext : Bool)
  | offerAtIdle
  | attemptLost
  | commandAck (frame : RxFrame)
  | formErrorBreak (error : LineError)
  | frameVoided (frame : Option RxFrame)
  | quietTimeout
  | busStuck
  | busStuckRecovered
  | ownAttemptCompleted (heard : Bool)
  | ownAlarmCompleted (heard : Bool)
  | ownStatusCompleted (heard : Bool)
  | statusPeriod
  | statusReceived (frame : RxFrame)
  | alarmReceived (frame : RxFrame)
  | reserveReceived (frame : RxFrame)
  | ownReserveCompleted (heard : Bool)
  | releaseReceived (frame : RxFrame)
  | chuteClaimReceived (frame : RxFrame) (heard : Bool)
  | chuteReleaseReceived (frame : RxFrame) (heard : Bool)
  | binEmptiedReceived (frame : RxFrame)
  | forgetReceived (frame : RxFrame)
  | presenceOnlyFrame (frame : RxFrame)
  | peerAbsent (station : Station)
  | staleTimeout (station : Station)
  | listenInEnd
  | laneOpen (source : Station) (payload : List Byte)
  | laneClose (source : Station) (payload : List Byte)
  | dispense (source : Station) (payload : List Byte)
  | dispenseMix (source : Station) (payload : List Byte)
  | continueDispense (source : Station) (payload : List Byte)
  | cancel (source : Station) (payload : List Byte)
  | drawerOpen (source : Station) (payload : List Byte)
  | drawerClose (source : Station) (payload : List Byte)
  | envelopeCapture (source : Station) (payload : List Byte)
  | envelopeReturn (source : Station) (payload : List Byte)
  | imprintWrite (source : Station) (payload : List Byte)
  | imprintField (source : Station) (payload : List Byte)
  | cassetteLoad (source : Station) (payload : List Byte)
  | binSet (source : Station) (payload : List Byte)
  | serviceBegin (source : Station) (payload : List Byte)
  | serviceEnd (source : Station) (payload : List Byte)
  | alarmAck (source : Station) (payload : List Byte)
  | alarmReset (source : Station) (payload : List Byte)
  | query (source : Station) (payload : List Byte) (lines : Lines)
  | restart (source : Station) (payload : List Byte) (lines : Lines)
  | configLane (source : Station) (payload : List Byte)
  | configCassette (source : Station) (payload : List Byte)
  | configBins (source : Station) (payload : List Byte)
  | configDone (source : Station) (payload : List Byte) (lines : Lines)
  | badCommand (source : Station) (kind : BitVec 7) (payload : List Byte)
  | cassetteRemoved (slot : Slot)
  | cassetteInserted (slot : Slot)
  | transportStall (path : PathCount)
  | baselineGateClosed (path : PathCount) (cyclesL cyclesR : Nat)
  | edgeCovered (path : PathCount)
  | mispick (path : PathCount)
  | noteGateClosed (path : PathCount) (cyclesL cyclesR : Nat)
  | trailingEdge (path : PathCount)
  | longObject (path : PathCount)
  | exitArrival (path : PathCount) (side : Side)
  | noExit (path : PathCount)
  | exitBlocked (path : PathCount)
  | purgeDone (path : PathCount)
  | suspendTimeout
  | trayChange (covered : Bool)
  | transferStrokeEnd (lines : Lines)
  | returnLoadTimeout (lines : Lines)
  | drawerExtended
  | drawerHome (lines : Lines)
  | drawerMotionTimeout (lines : Lines)
  | safetyEdgePressed
  | safetyEdgeCleared
  | obstructionWaitEnd
  | trayEmptyTimeout
  | takeTimeout
  | depositTimeout
  | sweepEnd
  | intakeLeadingEdge (pulses : Nat)
  | notDrawn (pulses : Nat) (lines : Lines)
  | printWindowOpen (pulses : Nat)
  | printStrobe (microseconds : Nat) (hot : Bool)
  | intakeTrailingEdge (pulses : Nat)
  | intakeTooLong (pulses : Nat)
  | envelopeSeated (pulses : Nat) (lines : Lines)
  | seatTimeout (pulses : Nat)
  | reversalEnd (pulses : Nat) (lines : Lines)
  | reverseTimeout (pulses : Nat)
  | intakeStall (pulses : Nat)
  | ejectEnd (pulses : Nat) (lines : Lines)
  | ejectTimeout (pulses : Nat) (lines : Lines)
  | clearRunEnd (pulses : Nat) (lines : Lines)
  | clearRunTimeout (pulses : Nat) (stalled : Bool)
  | gatePulse
  | gateTimeout
  | fairnessWaitEnd
  | loopChange (loop : Slot) (cls : LoopClass)
  | sirenToggle
  | sirenTimeout
  | serviceTimeout
deriving DecidableEq, Repr

end Sys2Proof
end

