-- ==== Sys2Proof/Machine/State.lean ====
section
/-!
DEFINITION. The state of the lane controller as plain data, one structure for each block of the part (00_scope.md,
"Blocks"), the machine's value after a power reset, and the reasons a step can stop.
-/

namespace Sys2Proof.Machine

open Sys2Proof

/-! ### Cassette manager (CAS) -/

/-- The state of a cassette record (R2). -/
inductive CasState where
  | unused | absent | ok | low | empty
deriving DecidableEq, Repr

/-- A cassette record (R1) with the slot's debounced presence line (R3). -/
structure Cassette where
  denomination : Nat
  nominal      : Nat
  ref8L        : Nat
  ref8R        : Nat
  count        : Nat
  loaded       : Nat
  lowMark      : Nat
  mispicks     : Nat
  state        : CasState
  present      : Bool
deriving DecidableEq, Repr

/-- The causes of a CASSETTE_EVENT (R8). -/
inductive CasCause where
  | removed | inserted | lowMark | emptied | mispicks | loaded
deriving DecidableEq, Repr

/-! ### Note transport and gauge (NTG) -/

/-- The six states of the note transport (R21). -/
inductive NtgState where
  | idle | baseline | feeding | draining | purge | halted
deriving DecidableEq, Repr

/-- Why the transport halted (R38). -/
inductive HaltCause where
  | none | stall | strayObject | longObject | noExit | exitBlocked | divertFault | purgeStopped
deriving DecidableEq, Repr

/-- Where an object record stands (R22). -/
inductive Stage where
  | picked | atGauge | pastGauge
deriving DecidableEq, Repr

/-- The class of one gauge channel (R31). -/
inductive ChannelClass where
  | low | one | two | many
deriving DecidableEq, Repr

/-- The gauge class of an object (R32). -/
inductive GaugeClass where
  | single | thin | folded | double | multiple
deriving DecidableEq, Repr

/-- The length class of an object (R33). -/
inductive LengthClass where
  | short | ok | chained
deriving DecidableEq, Repr

/-- The outcome of an object (R34). -/
inductive ObjOutcome where
  | accept | reject
deriving DecidableEq, Repr

/-- Why an object is a reject (R34, R37, R40). -/
inductive RejectReason where
  | thin | folded | double | multiple | short | chained | diverted | purged
deriving DecidableEq, Repr

/-- An object in transport (R22). A field that R22 gives from a later event is absent before it. -/
structure ObjRec where
  slot        : Option Slot
  stage       : Stage
  sincePick   : Option Nat
  sinceLead   : Option Nat
  sinceTrail  : Option Nat
  counts      : Option (Nat × Nat)
  indices     : Option (Nat × Nat)
  length      : Option Nat
  gauge       : Option GaugeClass
  lengthClass : Option LengthClass
  outcome     : Option ObjOutcome
  reason      : Option RejectReason
  estimate    : Option Nat
  route       : Option Side
  purge       : Bool
deriving DecidableEq, Repr

/-- A pick order: the slot, and the stacker count at which it is fulfilled (R25). -/
structure PickOrder where
  slot   : Slot
  target : Nat
deriving DecidableEq, Repr

/-- The last measured object, kept for QUERY (R43). -/
structure Measured where
  slot        : Option Slot
  indices     : Option (Nat × Nat)
  length      : Nat
  gauge       : Option GaugeClass
  lengthClass : LengthClass
  outcome     : ObjOutcome
  reason      : Option RejectReason
  estimate    : Nat
deriving DecidableEq, Repr

/-- What a hand-over gives the dispense engine (R37). -/
structure Routed where
  slot     : Option Slot
  outcome  : ObjOutcome
  reason   : Option RejectReason
  estimate : Nat
  exit     : Side
deriving DecidableEq, Repr

/-- The note transport and gauge. An exit sensor's mark is absent while the sensor is clear and holds the pulses counted
since it became covered otherwise (R36); `clearFor` counts the pulses for which no record, a clear edge and two clear exits
have held together (R41). -/
structure Ntg where
  state      : NtgState
  cause      : HaltCause
  order      : Option PickOrder
  c0L        : Nat
  c0R        : Nat
  valid      : Bool
  records    : List ObjRec
  last       : Option Measured
  diverter   : Side
  edge       : Bool
  exitS      : Option Nat
  exitR      : Option Nat
  clearFor   : Nat
  sinceStart : Nat
  purged     : Nat
  gateLength : Nat
deriving DecidableEq, Repr

/-! ### Dispense engine (DSP) -/

/-- The nine states of the dispense engine (R44). -/
inductive DspState where
  | purging | idle | reserving | baseline | picking | stacked | presenting | suspended | fault
deriving DecidableEq, Repr

/-- How far the RESERVE of the dispense has come (R45). -/
inductive ResMark where
  | none | queued | sent
deriving DecidableEq, Repr

/-- Why a dispense ended (R65). -/
inductive EndReason where
  | complete | cancelled | wallLimit | busFault | lockdown | retracted | tooManyRejects | suspendTimeout
  | gaugeFault | jam | restart
deriving DecidableEq, Repr

/-- The kinds of a pick list entry (R48). -/
inductive EntryKind where
  | pick | present | presentFinal
deriving DecidableEq, Repr

/-- The state of a pick list entry (R48). -/
inductive EntryState where
  | pending | active | done
deriving DecidableEq, Repr

/-- An entry of the pick list (R48). Slot, wanted and done are read for PICK entries only. -/
structure Entry where
  kind   : EntryKind
  slot   : Slot
  wanted : Nat
  done   : Nat
  state  : EntryState
deriving DecidableEq, Repr

/-- The dispense engine: its dispense record, pick list, stacker and bins (R45). -/
structure Dsp where
  state           : DspState
  amount          : Nat
  delivered       : Nat
  paid            : Nat
  inStacker       : Nat
  stackerCount    : Nat
  taken           : Nat
  retracted       : Nat
  rejected        : Nat
  rejectEvents    : Nat
  picked          : Four Nat
  mixSlots        : Four Bool
  bundle          : Nat
  reservation     : ResMark
  cancelMark      : Bool
  lockMark        : Bool
  pendingEnd      : Option EndReason
  suspendTimer    : Option Nat
  pickList        : List Entry
  leftover        : Nat
  rejectCount     : Nat
  rejectCap       : Nat
  retractCount    : Nat
  retractCap      : Nat
  overflow        : Bool
  bundleLimit     : Nat
  dispensing      : Bool
  withdrawPending : Bool
deriving DecidableEq, Repr

/-! ### Drawer controller (DRW) -/

/-- The five states of the drawer (R72). -/
inductive DrwState where
  | closed | extending | opened | retracting | jammed
deriving DecidableEq, Repr

/-- What the drawer is serving (R72). -/
inductive Purpose where
  | none | deposit | notes | ret
deriving DecidableEq, Repr

/-- The phase of an extension (R77). -/
inductive ExtPhase where
  | load | travel
deriving DecidableEq, Repr

/-- What an OPEN drawer is doing (R78, R81): standing, backing off to the extended switch, in the obstruction wait, or
waiting for the safety edge to clear before its retraction begins. -/
inductive OpenMode where
  | standing | backingOff | waiting | edgeWait
deriving DecidableEq, Repr

/-- Why the drawer is JAMMED (R72). -/
inductive DrwJam where
  | none | load | extendTime | retractTime | backoffTime | switches
deriving DecidableEq, Repr

/-- A notes request (R56): bundle number, note count, final mark. -/
structure NotesReq where
  bundle : Nat
  count  : Nat
  final  : Bool
deriving DecidableEq, Repr

/-- The causes of a DRAWER_EVENT (R88). -/
inductive DrwCause where
  | opened | closed | obstructed | sweepFail | jammed
deriving DecidableEq, Repr

/-- The reasons of a TRAY_ITEM (R88, R108). -/
inductive TrayReason where
  | blockingNotes | returnLeft | leftInTray | pocketFull | notDrawn | tooShort | tooLong | intakeJam | cleared
deriving DecidableEq, Repr

/-- The drawer controller (R72). Timers hold the milliseconds left; none is a stopped timer. -/
structure Drw where
  state          : DrwState
  purpose        : Purpose
  phase          : ExtPhase
  mode           : OpenMode
  pendingReq     : Option NotesReq
  blocked        : Bool
  served         : Option NotesReq
  returnSeq      : Option Nat
  reported       : Bool
  obstructions   : Nat
  hold           : Bool
  retractNext    : Bool
  reachedOpen    : Bool
  jam            : DrwJam
  motion         : Option Nat
  take           : Option Nat
  deposit        : Option Nat
  trayEmpty      : Option Nat
  obstruct       : Option Nat
  sweep          : Option Nat
  stroke         : Option Nat
  load           : Option Nat
  tray           : Bool
  safe           : Bool
  takeTimeout    : Nat
  depositTimeout : Nat
  settled        : Bool
deriving DecidableEq, Repr

/-! ### Intake and imprinter (INK) -/

/-- The eight states of the intake (R89). -/
inductive InkState where
  | idle | waiting | drawing | printing | seating | reversing | ejecting | jammed
deriving DecidableEq, Repr

/-- The kinds of an intake record (R90). -/
inductive IntakeKind where
  | intake | reverseRun | eject
deriving DecidableEq, Repr

/-- The outcomes of an intake record (R90). -/
inductive IntakeOutcome where
  | accepted | tooShort | tooLong | notDrawn | jammed
deriving DecidableEq, Repr

/-- The quality of an imprint (R105, R109). -/
inductive Quality where
  | full | light | part | unknown
deriving DecidableEq, Repr

/-- Why the intake is JAMMED (R98). -/
inductive InkJam where
  | none | stall | stray | seat | reverse | eject | clear
deriving DecidableEq, Repr

/-- The intake record (R90). A field that R90 gives from a later event is absent before it. -/
structure IntakeRec where
  kind        : IntakeKind
  sinceStart  : Nat
  sinceLead   : Option Nat
  seq         : Option Nat
  length      : Option Nat
  outcome     : Option IntakeOutcome
  strobed     : Option Nat
  skipped     : Option Nat
  hotSeen     : Option Bool
  quality     : Option Quality
  jam         : InkJam
deriving DecidableEq, Repr

/-- The bytes of the imprint raster, page by page, 96 columns each (R100). -/
abbrev Raster := Vector Byte 768

/-- What a print window fixed at its opening (R103): the raster, the field window and the number printed. -/
structure PrintWindow where
  raster : Raster
  page   : Nat
  col    : Nat
  seq    : Nat
deriving DecidableEq, Repr

/-- The intake and imprinter; `sinceClear` counts the pulses for which the sensor has stood clear in the present run (R97). -/
structure Ink where
  state        : InkState
  record       : IntakeRec
  seqCounter   : Nat
  raster       : Raster
  fieldPage    : Nat
  fieldCol     : Nat
  energy       : Nat
  mirror       : Bool
  window       : Option PrintWindow
  burnLeft     : Nat
  sensor       : Bool
  clearPending : Bool
  coveredInRun : Bool
  sinceClear   : Nat
deriving DecidableEq, Repr

/-! ### Pocket and chute (PKT) -/

/-- What is being done with an envelope (R109). -/
inductive EnvState where
  | inPocket | returning | captureWait | launched
deriving DecidableEq, Repr

/-- An envelope record (R109); the skip count is read with quality PARTIAL. -/
structure EnvRec where
  seq       : Nat
  length    : Nat
  quality   : Quality
  skipped   : Nat
  recovered : Bool
  state     : EnvState
deriving DecidableEq, Repr

/-- The chute state of the lane's own side (R115). -/
inductive ChuteState where
  | none | claiming | launched | releasing
deriving DecidableEq, Repr

/-- The outcomes of an ENVELOPE_OUT (R126). -/
inductive OutOutcome where
  | returned | leftInTray | captured | lost
deriving DecidableEq, Repr

/-- The pocket and chute. -/
structure Pkt where
  pocket   : List EnvRec
  chute    : ChuteState
  gate     : Option Nat
  fairness : Option Nat
  capacity : Nat
deriving DecidableEq, Repr

/-! ### Peer table (PT) and alarm unit (ALM) -/

/-- A set of the four alarm kinds (R145). -/
structure AlarmSet where
  duress  : Bool
  tamper  : Bool
  cabinet : Bool
  bin     : Bool
deriving DecidableEq, Repr

/-- The empty set of alarm kinds. -/
def AlarmSet.empty : AlarmSet := ⟨false, false, false, false⟩

/-- A peer record (R127). The last states are the codes the station's last STATUS carried. -/
structure Peer where
  present   : Bool
  age       : Nat
  lane      : Option Nat
  dispense  : Option Nat
  drawer    : Option (Nat × Nat)
  announced : AlarmSet
  exposure  : Nat
  holder    : Bool
  stale     : Option Nat
deriving DecidableEq, Repr

/-- The peer table. -/
structure Pt where
  peers       : Vector Peer 15
  view        : Option Nat
  listenIn    : Option Nat
  wallLimit   : Nat
  quietEnded  : Bool
  stuckSeen   : Bool
  statusTimer : Option Nat
deriving DecidableEq, Repr

/-- An alarm loop: its debounced state and its enable (R143, R144). -/
structure AlarmLoop where
  state   : LoopClass
  enabled : Bool
deriving DecidableEq, Repr

/-- The alarm unit. The loops stand in the order DURESS, TAMPER, CABINET_DOOR, BIN_DOOR of LOOP1 to LOOP4. -/
structure Alm where
  loops         : Four AlarmLoop
  latch         : AlarmSet
  wall          : AlarmSet
  serviceWindow : Bool
  siren         : Bool
  sirenTimer    : Option Nat
  sirenOn       : Bool
  sirenToggle   : Option Nat
  relay         : Bool
  latchChanged  : Bool
deriving DecidableEq, Repr

/-! ### Bus interface (BIU) and command decoder (CMD) -/

/-- A frame of the wall queue (R169): RESERVE and RELEASE with their amount, CHUTE_CLAIM, CHUTE_RELEASE with whether
an envelope was captured. -/
inductive WallItem where
  | reserve (amount : Nat)
  | release (amount : Nat)
  | claim
  | chuteRelease (captured : Bool)
deriving DecidableEq, Repr

/-- A class 3 frame (R175, R176, R178): its kind, destination and payload bytes. -/
structure OutFrame where
  kind    : Nat
  dest    : Station
  payload : List Byte
deriving DecidableEq, Repr

/-- What a position of the FIFO is reserved for: the REPLY of the command being judged, its LANE_RECORD, or the REPLY of
a RESTART that is held (R172, R178, R186). -/
inductive Reservation where
  | record | reply | restart
deriving DecidableEq, Repr

/-- A position of the reply/event FIFO that has been taken (R169). -/
inductive FifoPos where
  | frame (f : OutFrame)
  | reserved (what : Reservation)
deriving DecidableEq, Repr

/-- The item an attempt offers (R169). -/
inductive OfferItem where
  | alarm
  | wall (item : WallItem)
  | fifo (f : OutFrame)
  | status
deriving DecidableEq, Repr

/-- An attempt in transmission: the item offered and the frame built for it, with its CRC (R159, R160, R169). -/
structure Attempt where
  item    : OfferItem
  cls     : Nat
  dest    : Station
  kind    : Nat
  payload : List Byte
  crc     : BitVec 16
deriving DecidableEq, Repr

/-- The outcome of an attempt (R166). -/
inductive AttemptOutcome where
  | lost | delivered | unheard | void
deriving DecidableEq, Repr

/-- The bus interface with the outbox. `broken` says that this station has sent a break in the frame now on the line: it
ignores the rest of it, drives no slot of it and counts it no more (R163, R167). -/
structure Biu where
  slow        : Bool
  attempt     : Option Attempt
  lastOutcome : Option AttemptOutcome
  alarmFlag   : Bool
  wallQueue   : List WallItem
  fifo        : List FifoPos
  statusFlag  : Bool
  voidCount   : Nat
  quiet       : Option Nat
  stuck       : Bool
  broken      : Bool
deriving DecidableEq, Repr

/-- A command frame the lane has acknowledged (R172). -/
structure CmdFrame where
  source  : Station
  kind    : BitVec 7
  payload : List Byte
deriving DecidableEq, Repr

/-- The command decoder. -/
structure Cmd where
  owner    : Option Station
  acked    : Option CmdFrame
  eventGap : Bool
deriving DecidableEq, Repr

/-! ### Lane supervisor (LSV) and the whole machine -/

/-- The eight lane states (R180). -/
inductive LaneState where
  | starting | awaitConfig | purging | listening | closed | opened | service | fault
deriving DecidableEq, Repr

/-- What the purge of R183 waits for, beside the note transport's run: the drawer to be CLOSED, INK's clear run, or nothing
more since the pocket survey has reported. -/
inductive PurgeStage where
  | drawer | intake | surveyed
deriving DecidableEq, Repr

/-- The lane supervisor. -/
structure Lsv where
  lane          : LaneState
  station       : Station
  stage         : PurgeStage
  transportDone : Bool
  gotLane       : Bool
  gotBins       : Bool
  serviceTimer  : Option Nat
  heldFault     : Bool
  heldRestarts  : List (Station × Byte)
deriving DecidableEq, Repr

/-- A momentary drive of an output line (log 26): one energising of a slot's pick solenoid (R26), one drive of LAUNCH
(R117), one burned strobe of the imprint head with the eight bytes of its column and its burn time (R104), and on the bus
line the ACK slot, the OBJECT slot (R165) and a break (R163). -/
inductive Output where
  | pick (slot : Slot)
  | launch
  | strobe (bytes : List Byte) (microseconds : Nat)
  | ack
  | object
  | lineBreak
deriving DecidableEq, Repr

/-- The whole lane controller, and the queue of the commands that wait, first in, first out. -/
structure State where
  cas     : Four Cassette
  ntg     : Ntg
  dsp     : Dsp
  drw     : Drw
  ink     : Ink
  pkt     : Pkt
  pt      : Pt
  alm     : Alm
  biu     : Biu
  cmd     : Cmd
  lsv     : Lsv
  lines   : Lines
  outputs : List Output
  pending : List Instr
deriving DecidableEq, Repr

/-- There is no fault: every step the spec lists leaves the machine in a next state, its own faults (lane state FAULT,
a halted transport, a jammed drawer or intake) among them. Nothing raises one; safe. -/
inductive Fault where
deriving DecidableEq, Repr

/-- Why a step is refused. -/
inductive Refusal where
  /-- Raised by `exec` alone, for a command that has no meaning yet; safe, since the machine stops. No command of this
  model is left without one. -/
  | notModelled (mnemonic : String)
deriving DecidableEq, Repr

/-! ### After a power reset -/

/-- A cassette record after a power reset (R18). The presence line's first level is a DESIGN CHOICE, open (log 7). -/
def Cassette.reset : Cassette :=
  { denomination := 0, nominal := 120, ref8L := 256, ref8R := 256, count := 0, loaded := 0, lowMark := 0,
    mispicks := 0, state := .unused, present := false }

/-- The note transport after a power reset (R42). The first level of the edge and exit sensors is a DESIGN CHOICE,
uncovered (log 7). -/
def Ntg.reset : Ntg :=
  { state := .idle, cause := .none, order := none, c0L := 0, c0R := 0, valid := false, records := [], last := none,
    diverter := .reject, edge := false, exitS := none, exitR := none, clearFor := 0, sinceStart := 0, purged := 0,
    gateLength := 32 }

/-- The dispense engine after a power reset (R45). -/
def Dsp.reset : Dsp :=
  { state := .purging, amount := 0, delivered := 0, paid := 0, inStacker := 0, stackerCount := 0, taken := 0,
    retracted := 0, rejected := 0, rejectEvents := 0, picked := Four.replicate 0, mixSlots := Four.replicate false,
    bundle := 0, reservation := .none, cancelMark := false, lockMark := false, pendingEnd := none,
    suspendTimer := none, pickList := [], leftover := 0, rejectCount := 0, rejectCap := 50, retractCount := 0,
    retractCap := 50, overflow := false, bundleLimit := 50, dispensing := false, withdrawPending := false }

/-- The drawer controller after a power reset (R88), before its switches have settled: DESIGN CHOICE, CLOSED with the
tray uncovered and the safety edge clear (log 7, 8). -/
def Drw.reset : Drw :=
  { state := .closed, purpose := .none, phase := .load, mode := .standing, pendingReq := none, blocked := false,
    served := none, returnSeq := none, reported := false, obstructions := 0, hold := false, retractNext := false,
    reachedOpen := false, jam := .none, motion := none, take := none, deposit := none, trayEmpty := none,
    obstruct := none, sweep := none, stroke := none, load := none, tray := false, safe := false,
    takeTimeout := 30, depositTimeout := 60, settled := false }

/-- A fresh intake record of a kind (R90: a new intake sets every field afresh). -/
def IntakeRec.fresh (kind : IntakeKind) : IntakeRec :=
  { kind := kind, sinceStart := 0, sinceLead := none, seq := none, length := none, outcome := none, strobed := none,
    skipped := none, hotSeen := none, quality := none, jam := .none }

/-- The intake after a power reset (R108). The intake sensor's first level is a DESIGN CHOICE, clear (log 7). -/
def Ink.reset : Ink :=
  { state := .idle, record := IntakeRec.fresh .intake, seqCounter := 1, raster := Vector.replicate 768 0,
    fieldPage := 8, fieldCol := 0, energy := 0, mirror := false, window := none, burnLeft := 0, sensor := false,
    clearPending := false, coveredInRun := false, sinceClear := 0 }

/-- The pocket after a power reset (R125). -/
def Pkt.reset : Pkt := { pocket := [], chute := .none, gate := none, fairness := none, capacity := 100 }

/-- A peer record after a power reset (R142). -/
def Peer.reset : Peer :=
  { present := false, age := 2000, lane := none, dispense := none, drawer := none, announced := AlarmSet.empty,
    exposure := 0, holder := false, stale := none }

/-- The peer table after a power reset (R142). -/
def Pt.reset : Pt :=
  { peers := Vector.replicate 15 Peer.reset, view := none, listenIn := none, wallLimit := 0, quietEnded := false,
    stuckSeen := false, statusTimer := none }

/-- The alarm unit after a power reset (R156). -/
def Alm.reset : Alm :=
  { loops := Four.replicate { state := .normal, enabled := true }, latch := AlarmSet.empty, wall := AlarmSet.empty,
    serviceWindow := false, siren := false, sirenTimer := none, sirenOn := false, sirenToggle := none, relay := false,
    latchChanged := false }

/-- The bus interface after a power reset (R171) with the bit rate the RATE strap gave (R157). -/
def Biu.reset (slow : Bool) : Biu :=
  { slow := slow, attempt := none, lastOutcome := none, alarmFlag := false, wallQueue := [], fifo := [],
    statusFlag := false, voidCount := 0, quiet := none, stuck := false, broken := false }

/-- The command decoder after a power reset (R174, R177). -/
def Cmd.reset : Cmd := { owner := none, acked := none, eventGap := false }

/-- The lane supervisor after a power reset (R180 to R184) with the station number strapped (R181). -/
def Lsv.reset (station : Station) : Lsv :=
  { lane := .starting, station := station, stage := .drawer, transportDone := false, gotLane := false,
    gotBins := false, serviceTimer := none, heldFault := false, heldRestarts := [] }

/-- The machine a power reset leaves, for the levels of the two straps (R181). -/
def State.powerOn (station : Station) (slow : Bool) : State :=
  { cas := Four.replicate Cassette.reset, ntg := Ntg.reset, dsp := Dsp.reset, drw := Drw.reset, ink := Ink.reset,
    pkt := Pkt.reset, pt := Pt.reset, alm := Alm.reset, biu := Biu.reset slow, cmd := Cmd.reset,
    lsv := Lsv.reset station, lines := Lines.quiet, outputs := [], pending := [] }

/-- The machine right after reset. DESIGN CHOICE, unsafe (log 6): strapped as lane 1 at 125 kbit/s. -/
def State.reset : State := State.powerOn 1 false

end Sys2Proof.Machine
end

