-- ==== Sys2Proof/Machine/Operands.lean ====
section
/-!
DEFINITION. How values travel: byte fields (most significant byte first, R179), clamping, the codes of every field (R179), the
header of a frame and its CRC (R159, R160), the roles of stations and the kinds of frames (10.6).
-/

namespace Sys2Proof.Machine

open Sys2Proof

/-! ### Byte fields -/

/-- One byte of a number. -/
def byteOf (n : Nat) : Byte := BitVec.ofNat 8 n
/-- A field of one byte. -/
def be1 (n : Nat) : List Byte := [byteOf n]
/-- A field of two bytes, most significant first. -/
def be2 (n : Nat) : List Byte := [byteOf (n / 256), byteOf n]
/-- A field of three bytes, most significant first. -/
def be3 (n : Nat) : List Byte := [byteOf (n / 65536), byteOf (n / 256), byteOf n]
/-- A field of four bytes, most significant first. -/
def be4 (n : Nat) : List Byte := [byteOf (n / 16777216), byteOf (n / 65536), byteOf (n / 256), byteOf n]

/-- The number a field of bytes carries, most significant byte first. -/
def beNat (bytes : List Byte) : Nat := bytes.foldl (fun n b => n * 256 + b.toNat) 0

/-- The bytes from place `i` on, `n` of them, read as one number. -/
def field (payload : List Byte) (i n : Nat) : Nat := beNat ((payload.drop i).take n)

/-- A value replaced by the nearest end of a range it lies outside (00_scope.md, "Numbers"). -/
def clampTo (lo hi v : Nat) : Nat := if v < lo then lo else if hi < v then hi else v

/-- Bits that stand next to each other in a list share a byte, the first in bit 7 (R179). -/
def packBits : List Bool → Byte :=
  fun bits => BitVec.ofNat 8 ((List.zip bits [128, 64, 32, 16, 8, 4, 2, 1]).foldl
    (fun n b => if b.1 then n + b.2 else n) 0)

/-- A field of one byte that may be absent: an absent value is sent with every bit set (R179). -/
def opt1 : Option Nat → List Byte
  | some n => be1 n
  | none => be1 255
/-- A field of two bytes that may be absent. -/
def opt2 : Option Nat → List Byte
  | some n => be2 n
  | none => be2 65535
/-- A field of three bytes that may be absent. -/
def opt3 : Option Nat → List Byte
  | some n => be3 n
  | none => be3 16777215

/-- A remaining time in a coarser unit of `unit` milliseconds. Its rounding is free (log 10). -/
def remaining (unit ms : Nat) : Nat :=
  ms / unit + (if ¬ ms % unit = 0 ∧ Config.roundsUp ms = true then 1 else 0)

/-- The remaining time of a timer in a unit, 0 when it is stopped (log 19). -/
def remainingOf (unit : Nat) (timer : Option Nat) : Nat := remaining unit (timer.getD 0)

/-! ### Stations -/

/-- Consoles are stations 0, 13 and 14 (R127). -/
def isConsole (s : Station) : Bool := s = 0 || s = 13 || s = 14
/-- Lanes are stations 1 to 12 (R127). -/
def isLane (s : Station) : Bool := 1 ≤ s.toNat && s.toNat ≤ 12
/-- The destination of a broadcast (R165). -/
def everyStation : Station := 15

/-! ### Codes (R179, with R2, R44, R72, R89) -/

/-- The code of a cassette state (R2). -/
def CasState.code : CasState → Nat
  | .unused => 0 | .absent => 1 | .ok => 2 | .low => 3 | .empty => 4
/-- A cassette is eligible for a mix when its state is OK or LOW (R2). -/
def CasState.eligible : CasState → Bool
  | .ok | .low => true
  | .unused | .absent | .empty => false
/-- The code of a CASSETTE_EVENT cause. -/
def CasCause.code : CasCause → Nat
  | .removed => 0 | .inserted => 1 | .lowMark => 2 | .emptied => 3 | .mispicks => 4 | .loaded => 5
/-- The code of a transport state. -/
def NtgState.code : NtgState → Nat
  | .idle => 0 | .baseline => 1 | .feeding => 2 | .draining => 3 | .purge => 4 | .halted => 5
/-- The motor is driven in BASELINE, FEEDING, DRAINING and PURGE (R20, R21). -/
def NtgState.motor : NtgState → Bool
  | .baseline | .feeding | .draining | .purge => true
  | .idle | .halted => false
/-- The code of a halt cause. -/
def HaltCause.code : HaltCause → Nat
  | .none => 0 | .stall => 1 | .strayObject => 2 | .longObject => 3 | .noExit => 4 | .exitBlocked => 5
  | .divertFault => 6 | .purgeStopped => 7
/-- The code of a gauge class. -/
def GaugeClass.code : GaugeClass → Nat
  | .single => 0 | .thin => 1 | .folded => 2 | .double => 3 | .multiple => 4
/-- The code of a length class. -/
def LengthClass.code : LengthClass → Nat
  | .short => 0 | .ok => 1 | .chained => 2
/-- The code of a reject reason. -/
def RejectReason.code : RejectReason → Nat
  | .thin => 1 | .folded => 2 | .double => 3 | .multiple => 4 | .short => 5 | .chained => 6 | .diverted => 7
  | .purged => 8
/-- The code of a dispense state (R44). -/
def DspState.code : DspState → Nat
  | .purging => 0 | .idle => 1 | .reserving => 2 | .baseline => 3 | .picking => 4 | .stacked => 5
  | .presenting => 6 | .suspended => 7 | .fault => 8
/-- The code of a reservation mark. -/
def ResMark.code : ResMark → Nat
  | .none => 0 | .queued => 1 | .sent => 2
/-- The code of an end reason. -/
def EndReason.code : EndReason → Nat
  | .complete => 0 | .cancelled => 1 | .wallLimit => 2 | .busFault => 3 | .lockdown => 4 | .retracted => 5
  | .tooManyRejects => 6 | .suspendTimeout => 7 | .gaugeFault => 8 | .jam => 9 | .restart => 10
/-- The code of a drawer state (R72). -/
def DrwState.code : DrwState → Nat
  | .closed => 0 | .extending => 1 | .opened => 2 | .retracting => 3 | .jammed => 4
/-- The code of a drawer purpose (R72). -/
def Purpose.code : Purpose → Nat
  | .none => 0 | .deposit => 1 | .notes => 2 | .ret => 3
/-- The code of a drawer jam cause. -/
def DrwJam.code : DrwJam → Nat
  | .none => 0 | .load => 1 | .extendTime => 2 | .retractTime => 3 | .backoffTime => 4 | .switches => 5
/-- The code of a DRAWER_EVENT cause. -/
def DrwCause.code : DrwCause → Nat
  | .opened => 0 | .closed => 1 | .obstructed => 2 | .sweepFail => 3 | .jammed => 4
/-- The code of a TRAY_ITEM reason. -/
def TrayReason.code : TrayReason → Nat
  | .blockingNotes => 0 | .returnLeft => 1 | .leftInTray => 2 | .pocketFull => 3 | .notDrawn => 4 | .tooShort => 5
  | .tooLong => 6 | .intakeJam => 7 | .cleared => 8
/-- The code of an intake state (R89). -/
def InkState.code : InkState → Nat
  | .idle => 0 | .waiting => 1 | .drawing => 2 | .printing => 3 | .seating => 4 | .reversing => 5 | .ejecting => 6
  | .jammed => 7
/-- The intake path is busy in every state but IDLE and WAITING (R89). -/
def InkState.busy : InkState → Bool
  | .idle | .waiting => false
  | .drawing | .printing | .seating | .reversing | .ejecting | .jammed => true
/-- The rollers are driven in these states (R89). -/
def InkState.driven : InkState → Bool
  | .drawing | .printing | .seating | .reversing | .ejecting => true
  | .idle | .waiting | .jammed => false
/-- The code of an intake record kind. -/
def IntakeKind.code : IntakeKind → Nat
  | .intake => 0 | .reverseRun => 1 | .eject => 2
/-- The code of an intake outcome. -/
def IntakeOutcome.code : IntakeOutcome → Nat
  | .accepted => 0 | .tooShort => 1 | .tooLong => 2 | .notDrawn => 3 | .jammed => 4
/-- The code of an imprint quality. -/
def Quality.code : Quality → Nat
  | .full => 0 | .light => 1 | .part => 2 | .unknown => 3
/-- The code of an intake jam cause. -/
def InkJam.code : InkJam → Nat
  | .none => 0 | .stall => 1 | .stray => 2 | .seat => 3 | .reverse => 4 | .eject => 5 | .clear => 6
/-- The code of a pocket record state. -/
def EnvState.code : EnvState → Nat
  | .inPocket => 0 | .returning => 1 | .captureWait => 2 | .launched => 3
/-- The code of a chute state. -/
def ChuteState.code : ChuteState → Nat
  | .none => 0 | .claiming => 1 | .launched => 2 | .releasing => 3
/-- The code of an ENVELOPE_OUT outcome. -/
def OutOutcome.code : OutOutcome → Nat
  | .returned => 0 | .leftInTray => 1 | .captured => 2 | .lost => 3
/-- The code of a loop class. -/
def LoopClass.code : LoopClass → Nat
  | .normal => 0 | .opened => 1 | .short => 2
/-- The code of a lane state (R180). -/
def LaneState.code : LaneState → Nat
  | .starting => 0 | .awaitConfig => 1 | .purging => 2 | .listening => 3 | .closed => 4 | .opened => 5
  | .service => 6 | .fault => 7
/-- The owner console as STATUS carries it, 15 for none (R174). -/
def ownerCode (owner : Option Station) : Nat := (owner.getD 15).toNat

/-- The codes of a REPLY (R175). -/
inductive Code where
  | ok | clamped | badParam | badState | busy | notOwner | notReady | laneClosed | drawerBusy | notMakeable
  | rejectBinFull | retractBinFull | captureBinFull | binUnknown | service | lockdown | noSuchEnvelope | notOldest
  | pocketEmpty | imprintBusy | configLocked | configIncomplete | stillActive
deriving DecidableEq, Repr

/-- The value of a reply code (R175). -/
def Code.value : Code → Nat
  | .ok => 0 | .clamped => 1 | .badParam => 2 | .badState => 3 | .busy => 4 | .notOwner => 5 | .notReady => 6
  | .laneClosed => 7 | .drawerBusy => 8 | .notMakeable => 9 | .rejectBinFull => 10 | .retractBinFull => 11
  | .captureBinFull => 12 | .binUnknown => 13 | .service => 14 | .lockdown => 15 | .noSuchEnvelope => 16
  | .notOldest => 17 | .pocketEmpty => 18 | .imprintBusy => 19 | .configLocked => 20 | .configIncomplete => 21
  | .stillActive => 22

/-! ### Frame kinds (10.6) and payload lengths of the commands -/

/-- ALARM, RESERVE, RELEASE, CHUTE_CLAIM, CHUTE_RELEASE, BIN_EMPTIED and FORGET. -/
def kindAlarm : Nat := 1
def kindReserve : Nat := 8
def kindRelease : Nat := 9
def kindClaim : Nat := 10
def kindChuteRelease : Nat := 11
def kindBinEmptied : Nat := 12
def kindForget : Nat := 13
/-- Class 3 and class 4 frames of the lane. -/
def kindReply : Nat := 48
def kindDispenseEnded : Nat := 49
def kindBundlePresented : Nat := 50
def kindBundleTaken : Nat := 51
def kindCassetteEvent : Nat := 52
def kindEnvelopeIn : Nat := 53
def kindEnvelopeOut : Nat := 54
def kindTrayItem : Nat := 55
def kindDrawerEvent : Nat := 56
def kindLaneRecord : Nat := 57
def kindStatus : Nat := 64
/-- QUERY, whose ACK reserves two positions (R172). -/
def kindQuery : BitVec 7 := 34

/-- Whether a command of this kind may have a payload of this many bytes, tag included; false for a kind that is no
command of the table of frame kinds (R173; the lengths are those the commands' rules give: R9, R12, R17, R60, R62,
R68, R75, R79, R100, R101, R111, R114, R153, R178, R182, R184, R186). Every IMPRINT_WRITE with a tag, a page and a
column is judged by R100 itself (log 20). -/
def lengthAllowed (kind : BitVec 7) (n : Nat) : Bool :=
  match kind.toNat with
  | 16 | 17 | 20 | 21 | 22 | 23 | 30 | 31 | 32 | 33 | 35 | 43 => n = 1
  | 18 | 19 | 29 => n = 5
  | 24 | 25 | 28 => n = 4
  | 26 => 3 ≤ n && n ≤ 24
  | 27 => n = 3
  | 34 => n = 2 || n = 3
  | 40 | 41 => n = 14
  | 42 => n = 11
  | _ => false

/-! ### The header and the CRC on the line -/

/-- The 24 bits of a header, class first, each field most significant bit first (R159, R179). -/
def headerBits (cls : BitVec 3) (source dest : Station) (kind : BitVec 7) (length : BitVec 6) : BitVec 24 :=
  cls ++ source ++ dest ++ kind ++ length

/-- The bits of a word, most significant first, as the line carries them. -/
def bitsMsbFirst {n : Nat} (w : BitVec n) : List Bool := (List.range n).map w.getMsbD

/-- One step of the CRC register (R160): the top bit is compared with the bit sent, the register moves one place up, and
is combined with x^12 + x^5 + 1 where they differed. -/
def crcStep (r : BitVec 16) (bit : Bool) : BitVec 16 :=
  if r.getMsbD 0 = bit then r <<< 1 else (r <<< 1) ^^^ 0x1021#16

/-- The CRC of a sequence of bits, from the register with all bits set (R160). -/
def crcOf (bits : List Bool) : BitVec 16 := bits.foldl crcStep 0xFFFF#16

/-- The CRC a receiver forms over the header and payload it sampled (R160). -/
def rxCrc (f : RxFrame) : BitVec 16 :=
  crcOf (bitsMsbFirst (headerBits f.cls f.source f.dest f.kind f.length) ++ f.payload.flatMap bitsMsbFirst)

/-- The most payload bytes a header may announce (R159). -/
def maxPayload : Nat := 24

/-- The CRC a receiver forms matches the bits it sampled (R160). -/
def crcMatches (f : RxFrame) : Bool := rxCrc f = f.crc

/-- The station has found a form error in the frame, a length field above 24 among them (R159, R163). -/
def malformed (f : RxFrame) : Bool := f.formError || decide (maxPayload < f.length.toNat)

/-- The station found no error in the frame (R166). -/
def cleanHere (f : RxFrame) : Bool := crcMatches f && !malformed f

/-- The CRC of a frame: over the header and the payload (R160). -/
def frameCrc (cls : BitVec 3) (source dest : Station) (kind : BitVec 7) (payload : List Byte) : BitVec 16 :=
  crcOf (bitsMsbFirst (headerBits cls source dest kind (BitVec.ofNat 6 payload.length))
    ++ payload.flatMap bitsMsbFirst)

end Sys2Proof.Machine
end

