-- ==== Sys2Proof/Decode.lean ====
section
/-!
DEFINITION. What reaches the block as which command. The table gives its rows no bits, so no word spells one; a frame in force does,
by its header and payload (R128 to R130, R159, R166, R172, R173).
-/

namespace Sys2Proof

/-- The command a word spells by the table's bits: none, since spec/opcode_table.json gives no row any (log 2). -/
def decodeTableWord (_nbits _w : Nat) : Option Instr := none

/-- The command of class 2 for a kind of the table of frame kinds (10.6), with its source, its payload and the lines sampled. -/
def commandOf (source : Station) (kind : BitVec 7) (payload : List Byte) (lines : Lines) : Instr :=
  if Machine.lengthAllowed kind payload.length = false then .badCommand source kind payload
  else match kind.toNat with
    | 16 => .laneOpen source payload
    | 17 => .laneClose source payload
    | 18 => .dispense source payload
    | 19 => .dispenseMix source payload
    | 20 => .continueDispense source payload
    | 21 => .cancel source payload
    | 22 => .drawerOpen source payload
    | 23 => .drawerClose source payload
    | 24 => .envelopeCapture source payload
    | 25 => .envelopeReturn source payload
    | 26 => .imprintWrite source payload
    | 27 => .imprintField source payload
    | 28 => .cassetteLoad source payload
    | 29 => .binSet source payload
    | 30 => .serviceBegin source payload
    | 31 => .serviceEnd source payload
    | 32 => .alarmAck source payload
    | 33 => .alarmReset source payload
    | 34 => .query source payload lines
    | 35 => .restart source payload lines
    | 40 => .configLane source payload
    | 41 => .configCassette source payload
    | 42 => .configBins source payload
    | 43 => .configDone source payload lines
    | _ => .badCommand source kind payload

/-- The step a frame in force from another station is, at a lane with its own number (R130, R166, R172): a command of a console to
this lane, a broadcast wall, ALARM or STATUS frame, or a frame for presence only. Whether the frame is in force here its step decides. -/
def frameStep (own : Station) (f : RxFrame) (lines : Lines) : Instr :=
  if f.dest = own ∧ f.cls = 2 ∧ Machine.isConsole f.source = true ∧ f.payload ≠ [] then
    commandOf f.source f.kind f.payload lines
  else if f.dest = Machine.everyStation then
    match f.cls.toNat, f.kind.toNat with
    | 0, 1 => .alarmReceived f
    | 1, 8 => .reserveReceived f
    | 1, 9 => .releaseReceived f
    | 1, 10 => .chuteClaimReceived f true
    | 1, 11 => .chuteReleaseReceived f true
    | 1, 12 => .binEmptiedReceived f
    | 1, 13 => .forgetReceived f
    | 4, 64 => .statusReceived f
    | _, _ => .presenceOnlyFrame f
  else .presenceOnlyFrame f

end Sys2Proof
end

