-- ==== Sys2Proof/Machine/Flags.lean ====
section
/-!
DEFINITION. Sets of alarm kinds, the effects they put the lane under (R149), and the flag bytes the frames carry (R179).
-/

namespace Sys2Proof.Machine

open Sys2Proof

/-- The union of two sets of alarm kinds (R148). -/
def AlarmSet.union (a b : AlarmSet) : AlarmSet :=
  ⟨a.duress || b.duress, a.tamper || b.tamper, a.cabinet || b.cabinet, a.bin || b.bin⟩

/-- The kinds of one set that another lacks. -/
def AlarmSet.minus (a b : AlarmSet) : AlarmSet :=
  ⟨a.duress && !b.duress, a.tamper && !b.tamper, a.cabinet && !b.cabinet, a.bin && !b.bin⟩

/-- The set holds a kind that sounds the siren: TAMPER, CABINET_DOOR or BIN_DOOR (R151). -/
def AlarmSet.sounds (a : AlarmSet) : Bool := a.tamper || a.cabinet || a.bin

/-- An alarm set in four bits: DURESS bit 3, TAMPER bit 2, CABINET_DOOR bit 1, BIN_DOOR bit 0 (R179). -/
def AlarmSet.code (a : AlarmSet) : Nat := a.duress.toNat * 8 + a.tamper.toNat * 4 + a.cabinet.toNat * 2 + a.bin.toNat

/-- The alarm set four bits carry (R179). -/
def AlarmSet.ofCode (n : Nat) : AlarmSet := ⟨n.testBit 3, n.testBit 2, n.testBit 1, n.testBit 0⟩

/-- LOCKDOWN's condition: TAMPER, CABINET_DOOR or both (R149). -/
def AlarmSet.locks (a : AlarmSet) : Bool := a.tamper || a.cabinet

/-- SILENT is in force while the wall alarm set holds DURESS (R149). -/
def State.silent (s : State) : Bool := s.alm.wall.duress
/-- LOCKDOWN is in force while the wall alarm set holds TAMPER or CABINET_DOOR (R149). -/
def State.lockdown (s : State) : Bool := s.alm.wall.locks
/-- CAPTURE_HOLD is in force while the wall alarm set holds BIN_DOOR (R149). -/
def State.captureHold (s : State) : Bool := s.alm.wall.bin

/-- The kind an alarm loop protects: LOOP1 to LOOP4 are DURESS, TAMPER, CABINET_DOOR and BIN_DOOR. -/
def loopKind : Slot → AlarmSet
  | .one => { AlarmSet.empty with duress := true }
  | .two => { AlarmSet.empty with tamper := true }
  | .three => { AlarmSet.empty with cabinet := true }
  | .four => { AlarmSet.empty with bin := true }

/-- The kind latched when an enabled loop goes to a state (R145): a short is TAMPER on any loop, an open loop its own kind,
but none for CABINET_DOOR while the service window is open. -/
def latchedBy (loop : Slot) (cls : LoopClass) (window : Bool) : AlarmSet :=
  match cls with
  | .normal => AlarmSet.empty
  | .short => { AlarmSet.empty with tamper := true }
  | .opened => if loop = .three ∧ window then AlarmSet.empty else loopKind loop

/-- The alarm enables in bits 3 to 0 of a flags byte, laid out as the alarm set (R182). -/
def enablesOf (flags : Nat) : Four Bool :=
  ⟨flags.testBit 3, flags.testBit 2, flags.testBit 1, flags.testBit 0⟩

/-- Lane state and dispense state, drawer state and purpose, or any two fields that share a byte. -/
def nibbles (hi lo : Nat) : Nat := hi * 16 + lo

/-- The eight flags of STATUS byte 3: chute holder, event gap, listen-in, capture count known, tray occupied, QUIET
ended recently, bus stuck seen, zero (R179). -/
def statusFlags (holder gap listen known tray quietEnded stuckSeen : Bool) : Byte :=
  packBits [holder, gap, listen, known, tray, quietEnded, stuckSeen, false]

/-- The cassette states of STATUS bytes 10 and 11: slot 1 in bits 15 to 13, slot 2 in 12 to 10, slot 3 in 9 to 7, slot 4
in 6 to 4, zero below (R179). -/
def cassetteStates (c : Four CasState) : Nat :=
  c.one.code * 8192 + c.two.code * 1024 + c.three.code * 128 + c.four.code * 16

end Sys2Proof.Machine
end

