-- ==== Sys2Proof/Machine/Ops.lean ====
section
/-!
DEFINITION. The shared operations of the blocks: the outbox, replies and events, the peer records, and the frame a lane hears.
-/

namespace Sys2Proof.Machine

open Sys2Proof

/-! ### The peer table -/

/-- The record of a station number; numbers above 14 have none (R127). -/
def peerAt (peers : Vector Peer 15) (n : Nat) : Peer := if h : n < 15 then peers[n] else Peer.reset

/-- The peer table with one record changed; a number above 14 changes nothing (R127, R129). -/
def modifyPeer (n : Nat) (f : Peer → Peer) (peers : Vector Peer 15) : Vector Peer 15 :=
  if h : n < 15 then peers.set n (f peers[n]) else peers

/-- One record of the machine's peer table changed. -/
def setPeer (n : Station) (f : Peer → Peer) (s : State) : State :=
  { s with pt.peers := modifyPeer n.toNat f s.pt.peers }

/-- The station's own exposure entry (R128, R140). -/
def State.ownExposure (s : State) : Nat := (peerAt s.pt.peers s.lsv.station.toNat).exposure

/-- The own exposure entry set at once (R65, R138). -/
def setOwnExposure (amount : Nat) (s : State) : State := setPeer s.lsv.station (fun p => { p with exposure := amount }) s

/-- A chute holder is recorded, the station itself included (R117). -/
def State.holderRecorded (s : State) : Bool := s.pt.peers.toList.any (fun p => p.holder)

/-- The own holder flag (R120). -/
def State.ownHolder (s : State) : Bool := (peerAt s.pt.peers s.lsv.station.toNat).holder

/-- The sum of the fifteen exposure entries (R138). -/
def exposureSum (peers : Vector Peer 15) : Nat := (peers.toList.map (fun p => p.exposure)).sum

/-- Listen-in is in force from the start of its timer until it runs out (R135). DESIGN CHOICE, unsafe (log 43): a timer that QUIET has
stopped holds nothing in force. -/
def State.listening (s : State) : Bool := s.pt.listenIn.isSome

/-! ### The outbox -/

/-- A frame joins the wall queue (R169). -/
def queueWall (item : WallItem) (s : State) : State := { s with biu.wallQueue := s.biu.wallQueue ++ [item] }

/-- A frame leaves the wall queue: withdrawn by its block, or done with (R169, R170). -/
def dropWall (item : WallItem) (s : State) : State := { s with biu.wallQueue := s.biu.wallQueue.erase item }

/-- The wall frame now in transmission, if one is. -/
def State.sending (s : State) : Option WallItem :=
  match s.biu.attempt with
  | some a => match a.item with
    | .wall w => some w
    | .alarm | .fifo _ | .status => none
  | none => none

/-- An event goes to the owner console, or to station 0 while the lane has no owner (R176). -/
def State.eventDest (s : State) : Station := s.cmd.owner.getD 0

/-- An event takes a FIFO position if one is free; otherwise it is dropped and the event-gap flag is set (R176). -/
def queueEvent (kind : Nat) (payload : List Byte) (s : State) : State :=
  if s.biu.fifo.length < Config.fifoPositions then
    { s with biu.fifo := s.biu.fifo ++ [.frame { kind := kind, dest := s.eventDest, payload := payload }] }
  else { s with cmd.eventGap := true }

/-- The first position reserved for a purpose takes its frame (R173, R177). -/
def fillPos (what : Reservation) (f : FifoPos) : List FifoPos → List FifoPos
  | [] => []
  | p :: rest => if p = .reserved what then f :: rest else p :: fillPos what f rest

/-- A frame fills the position reserved for it (R177). -/
def fillFrame (what : Reservation) (f : OutFrame) (s : State) : State :=
  { s with biu.fifo := fillPos what (.frame f) s.biu.fifo }

/-- The payload of a REPLY: tag, kind of the command, code, detail (R175, R179). -/
def replyPayload (tag : Byte) (kind : BitVec 7) (code : Code) (detail : List Byte) : List Byte :=
  [tag, byteOf kind.toNat, byteOf code.value] ++ detail

/-- The REPLY of a command, addressed to its source (R173, R175). -/
def replyFrame (source : Station) (tag : Byte) (kind : BitVec 7) (code : Code) (detail : List Byte) : OutFrame :=
  { kind := kindReply, dest := source, payload := replyPayload tag kind code detail }

/-- The reservations of a command frame that came to nothing are free again (R172). -/
def dropReservations (s : State) : State :=
  { s with cmd.acked := none,
           biu.fifo := s.biu.fifo.filter (fun p => p ≠ .reserved .record ∧ p ≠ .reserved .reply) }

/-! ### Events of the drawer and the intake (R88, R108) -/

/-- A DRAWER_EVENT: cause, purpose, tray level, jam cause, one byte each (R88, R179; log 18). -/
def drawerEvent (cause : DrwCause) (purpose : Purpose) (jam : DrwJam) (s : State) : State :=
  queueEvent kindDrawerEvent (be1 cause.code ++ be1 purpose.code ++ be1 s.drw.tray.toNat ++ be1 jam.code) s

/-- A TRAY_ITEM: reason, sequence number (R88, R108). -/
def trayItem (reason : TrayReason) (seq : Nat) (s : State) : State :=
  queueEvent kindTrayItem (be1 reason.code ++ be3 seq) s

/-! ### Frames in force -/

/-- A frame in force from a station: it has ended, the void count returns to 0 (R167), and the source's record, if it is another station
0 to 14, becomes PRESENT with age 0 (R129). -/
def hear (source : Station) (s : State) : State :=
  let s := { s with biu.voidCount := 0, biu.broken := false }
  if source = s.lsv.station then s else setPeer source (fun p => { p with present := true, age := 0 }) s

/-- A frame in force reaches the blocks only once the lane has joined the bus (R171, R181). -/
def State.joined (s : State) : Bool := s.lsv.lane ≠ .starting

/-- The station may drive a slot of a frame on the line: it has joined, is neither QUIET nor at a stuck line, and has sent
no break in the frame (R163 to R165, R168). -/
def State.drivesSlots (s : State) : Bool :=
  s.joined && s.biu.quiet.isNone && !s.biu.stuck && !s.biu.broken

/-- A momentary drive of an output line (log 26). -/
def drive (o : Output) (s : State) : State := { s with outputs := s.outputs ++ [o] }

/-- The ACK slot of a frame of another station: a receiver drives it in a broadcast whose CRC matched, if it found no form error
(R163, R165). That of a command is driven by COMMAND_ACK. -/
def ackSlot (f : RxFrame) (s : State) : State :=
  if s.drivesSlots && s.biu.attempt.isNone && f.dest = everyStation && cleanHere f then drive .ack s else s

/-- The receiver drives the OBJECT slot: it has a CRC error, and has found no form error (R163, R165). A sender does not
judge its own frame (R160). -/
def State.objects (f : RxFrame) (s : State) : Bool :=
  s.drivesSlots && s.biu.attempt.isNone && !malformed f && !crcMatches f

/-- The receiver sends a break in the frame: it has found a form error in it, a length field above 24 among them, and has sent none
yet (R159, R163). -/
def State.breaks (f : RxFrame) (s : State) : Bool := s.drivesSlots && malformed f

/-- This station voids the frame: by a break, or by driving its OBJECT slot (R163, R165). -/
def State.voids (f : RxFrame) (s : State) : Bool := s.breaks f || s.objects f

/-- The end of a frame of another station that no station objected to (R166): it is in force here if this station found no
error in it, counts for presence (R129), and does what its content says (R130). A frame in which this station found an
error is not in force here (R168); it ends all the same. A frame that carries the own number but was not sent here is applied to no
record (R128). -/
def receive (f : RxFrame) (effect : State → State) (s : State) : State :=
  if s.joined && cleanHere f then
    let s := ackSlot f (hear f.source s)
    if f.source = s.lsv.station then s else effect s
  else { s with biu.broken := false }

/-- The content of a broadcast of a class and kind; a frame of another class, kind or destination carries none, and counts
for presence only (R130, R166, R172; log 35). -/
def carrying (cls : BitVec 3) (kind : Nat) (f : RxFrame) (effect : State → State) (s : State) : State :=
  if f.cls = cls ∧ f.kind.toNat = kind ∧ f.dest = everyStation then effect s else s

/-- The levels of the sampled lines as a step reads them (log 5). -/
def sample (lines : Lines) (s : State) : State := { s with lines := lines }

/-! ### Steps -/

/-- Every step begins with no momentary drive made (log 26) and, since nothing stops the machine, ends in a next state. -/
def act (f : State → State) (s : State) : Host.Outcome State Fault Refusal := .next (f { s with outputs := [] })

/-- The answer a block gives a command: a code and a detail; none where the reply comes later (R173, R186). -/
abbrev Reply := Option (Code × List Byte)

/-- An answer that carries no detail. -/
def plain (code : Code) : Reply := some (code, [])

/-- The answer placed in the position reserved for it; none leaves the position reserved (R173). -/
def answer (source : Station) (tag : Byte) (kind : BitVec 7) (reply : Reply) (s : State) : State :=
  match reply with
  | some (code, detail) => fillFrame .reply (replyFrame source tag kind code detail) s
  | none => s

/-- A command frame addressed to this lane is in force (R172, R173). It counts for presence; it is acted on only if its ACK
was driven here (log 25). Its block serves it and the answer fills the reserved position; a command of a kind or length
outside the table is answered BAD_PARAM, no block acts on it, and a position held for a LANE_RECORD is freed. DESIGN CHOICE,
unsafe (log 49): the frame's own reset of the void count (R167) comes before its command is served, so that the LANE_RECORD of
a QUERY of section 0 reads the count as 0. -/
def onCommand (kind : BitVec 7) (source : Station) (payload : List Byte)
    (serve : List Byte → State → State × Reply) (s : State) : State :=
  if s.joined then
    let s := hear source s
    if s.cmd.acked = some { source := source, kind := kind, payload := payload } then
      let s := { s with cmd.acked := none }
      match payload with
      | [] => s
      | tag :: _ =>
        if lengthAllowed kind payload.length then
          let r := serve payload s
          answer source tag kind r.2 r.1
        else answer source tag kind (plain .badParam) { s with biu.fifo := s.biu.fifo.erase (.reserved .record) }
    else s
  else s

/-- A command refused with a code changes nothing (R46, R111, R114, R182). -/
def refuse (code : Code) (s : State) : State × Reply := (s, plain code)

/-- The first code of a list of checks that fails, in the order of the command's table (R175). -/
def firstFailing : List (Bool × Code) → Option Code
  | [] => none
  | (fails, code) :: rest => if fails then some code else firstFailing rest

/-- The checks of a command, and its effect when all pass. -/
def checked (checks : List (Bool × Code)) (effect : State → State × Reply) (s : State) : State × Reply :=
  match firstFailing checks with
  | some code => refuse code s
  | none => effect s

/-- The checks "lane state not OPEN" and "sender not the owner console" that open most tables (R46, R75, R100, R111). -/
def openChecks (source : Station) (s : State) : List (Bool × Code) :=
  [(s.lsv.lane = .service, .service), (s.lsv.lane ≠ .opened, .laneClosed),
   (s.cmd.owner.isSome && s.cmd.owner ≠ some source, .notOwner)]

end Sys2Proof.Machine
end

