-- ==== Sys2Proof/Machine/Cas.lean ====
section
/-!
DEFINITION. The cassette manager: the state of a record, what removal, insertion, delivery, mispick, load and configuration do to
it (R2 to R10), and the search of the note mix (R12 to R17).
-/

namespace Sys2Proof.Machine

open Sys2Proof

/-- The state of a record from denomination, presence line and count estimate (R2). -/
def casState (c : Cassette) : CasState :=
  if c.denomination = 0 then .unused
  else if c.present = false then .absent
  else if c.count = 0 then .empty
  else if c.count ≤ c.lowMark then .low
  else .ok

/-- The record with its state set by R2. -/
def casJudge (c : Cassette) : Cassette := { c with state := casState c }

/-- A CASSETTE_EVENT: slot, new state, count estimate, cause (R8, R179). -/
def cassetteEvent (k : Slot) (cause : CasCause) (s : State) : State :=
  let c := s.cas.get k
  queueEvent kindCassetteEvent (be1 k.number ++ be1 c.state.code ++ be2 c.count ++ be1 cause.code) s

/-- The debounced presence line opens: the line of an UNUSED slot changes no more than its level (R3). -/
def casRemove (c : Cassette) : Cassette × Option CasCause :=
  if c.state = .unused then ({ c with present := false }, none)
  else ({ c with present := false, state := .absent, count := 0, mispicks := 0 }, some .removed)

/-- The debounced presence line closes: only an ABSENT slot takes it as an insertion (R4). -/
def casInsert (c : Cassette) : Cassette × Option CasCause :=
  if c.state = .absent then
    ({ c with present := true, state := .empty, count := 0, mispicks := 0 }, some .inserted)
  else ({ c with present := true }, none)

/-- An object delivered from the slot with a note estimate (R6). An ABSENT or UNUSED slot is left unchanged. EMPTIED hides
LOW_MARK when one object carries a record from OK straight to EMPTY. -/
def casDeliver (estimate : Nat) (c : Cassette) : Cassette × Option CasCause :=
  match c.state with
  | .unused | .absent => (c, none)
  | .empty => ({ c with count := 0, mispicks := 0 }, none)
  | .ok | .low =>
    let c' := casJudge { c with count := c.count - estimate, mispicks := 0 }
    (c', if c'.state = .empty then some .emptied
         else if c.state = .ok ∧ c'.state = .low then some .lowMark
         else none)

/-- A mispick reported for the slot (R7). -/
def casMispick (c : Cassette) : Cassette × Option CasCause :=
  match c.state with
  | .unused | .absent => (c, none)
  | .empty => ({ c with mispicks := min 3 (c.mispicks + 1) }, none)
  | .ok | .low =>
    if 3 ≤ c.mispicks + 1 then ({ c with mispicks := 3, count := 0, state := .empty }, some .mispicks)
    else ({ c with mispicks := c.mispicks + 1 }, none)

/-- CASSETTE_LOAD's count applied to a record (R9). -/
def casLoad (count : Nat) (c : Cassette) : Cassette :=
  casJudge { c with count := count, loaded := count, mispicks := 0 }

/-- One update of a reference from an accepted object's index (R35). -/
def learn (ref8 t : Nat) : Nat := clampTo 8 8184 (ref8 + t - ref8 / 8)

/-- CONFIG_CASSETTE's fields taken into a record (R10); the values are already clamped. -/
def casConfigure (denomination nominal ref8L ref8R count lowMark : Nat) (c : Cassette) : Cassette :=
  casJudge { c with denomination := denomination, nominal := nominal, ref8L := ref8L, ref8R := ref8R, loaded := count,
                    lowMark := lowMark, mispicks := 0,
                    count := if denomination = 0 ∨ c.present = false then 0 else count }

/-- A change of a record that its rule names with a cause queues a CASSETTE_EVENT (R8). -/
def casApply (k : Slot) (f : Cassette → Cassette × Option CasCause) (s : State) : State :=
  let r := f (s.cas.get k)
  let s := { s with cas := s.cas.set k r.1 }
  match r.2 with
  | some cause => cassetteEvent k cause s
  | none => s

/-! ### The mix (R12 to R17) -/

/-- A slot goes before another in the mix order: higher denomination first, then lower slot number (R13). -/
def mixBefore (cas : Four Cassette) (a b : Slot) : Bool :=
  (cas.get b).denomination < (cas.get a).denomination
    || ((cas.get a).denomination = (cas.get b).denomination && a.number < b.number)

/-- A slot put in its place of the mix order. -/
def insertSlot (cas : Four Cassette) (k : Slot) : List Slot → List Slot
  | [] => [k]
  | j :: rest => if mixBefore cas k j then k :: j :: rest else j :: insertSlot cas k rest

/-- Slots placed in the mix order (R13). -/
def mixOrder (cas : Four Cassette) (slots : List Slot) : List Slot := slots.foldr (insertSlot cas) []

/-- The slots eligible for a mix (R2, R12). -/
def eligibleSlots (cas : Four Cassette) : List Slot := Slot.all.filter (fun k => (cas.get k).state.eligible)

/-- Counts tried from the highest down to 0, the first that gives a result taken (R15). -/
def firstDown {α : Type} (f : Nat → Option α) : Nat → Option α
  | 0 => f 0
  | n + 1 => match f (n + 1) with
    | some r => some r
    | none => firstDown f n

/-- The depth-first search of the mix over cassettes in mix order, given as (denomination, count estimate) pairs
(R15): the counts found, in the same order. The highest count of a cassette is the smallest of its estimate, the
allowance left and the quotient of the amount left. -/
def mixSearch : List (Nat × Nat) → (amount allowance : Nat) → Option (List Nat)
  | [], amount, _ => if amount = 0 then some [] else none
  | (d, c) :: rest, amount, allowance =>
    firstDown (fun n => (mixSearch rest (amount - n * d) (allowance - n)).map (fun ns => n :: ns))
      (min c (min allowance (amount / d)))

/-- A mix as it is handed to the dispense engine: the slots of the mix order with their counts (R16). -/
abbrev Mix := List (Slot × Nat)

/-- The mix for an amount and an allowance from the records (R12 to R15). -/
def findMix (cas : Four Cassette) (amount allowance : Nat) : Option Mix :=
  let order := mixOrder cas (eligibleSlots cas)
  (mixSearch (order.map (fun k => ((cas.get k).denomination, (cas.get k).count))) amount allowance).map
    (fun ns => List.zip order ns)

/-- The count of a slot in a mix, 0 when it is not in it (R16). -/
def Mix.countOf (m : Mix) (k : Slot) : Nat := ((m.filter (fun e => e.1 = k)).map (fun e => e.2)).sum

/-- The four counts of a mix in slot order, one byte each, as the REPLY details them (R16). -/
def Mix.detail (m : Mix) : List Byte := Slot.all.flatMap (fun k => be1 (m.countOf k))

/-- The slots that have a count above 0 (R47). -/
def Mix.slots (m : Mix) : Four Bool :=
  ⟨0 < m.countOf .one, 0 < m.countOf .two, 0 < m.countOf .three, 0 < m.countOf .four⟩

/-- The value of a mix (R14, R17). -/
def Mix.value (cas : Four Cassette) (m : Mix) : Nat := (m.map (fun e => e.2 * (cas.get e.1).denomination)).sum

/-- The mix a DISPENSE_MIX asks for: its slots with a count above 0, in mix order (R17). -/
def askedMix (cas : Four Cassette) (counts : Four Nat) : Mix :=
  (mixOrder cas (Slot.all.filter (fun k => 0 < counts.get k))).map (fun k => (k, counts.get k))

/-- The checks of a DISPENSE_MIX in the order of R17's table. -/
def mixChecks (cas : Four Cassette) (bundleLimit : Nat) (counts : Four Nat) : List (Bool × Code) :=
  [(counts.toList.sum = 0, .badParam),
   (Slot.all.any (fun k => 0 < counts.get k && !(cas.get k).state.eligible), .badParam),
   (4 * bundleLimit < counts.toList.sum, .badParam),
   (Slot.all.any (fun k => (cas.get k).count < counts.get k), .notMakeable)]

end Sys2Proof.Machine
end

