-- ==== Sys2Proof/Machine/Ntg.lean ====
section
/-!
DEFINITION. The note transport and gauge: its pulse marks, orders, withdrawals, halts and runs, the measurement of an object and its
routing (R20 to R42). The operations here read and write the transport alone; what they report is acted on in Dsp.lean and
Lsv.lean.
-/

namespace Sys2Proof.Machine

open Sys2Proof

/-! ### Pulses -/

/-- The marks of a record after more pulses (R22): each counts from the event that starts it. -/
def advanceRecord (pulses : Nat) (r : ObjRec) : ObjRec :=
  { r with sincePick := r.sincePick.map (· + pulses), sinceLead := r.sinceLead.map (· + pulses),
           sinceTrail := r.sinceTrail.map (· + pulses) }

/-- An exit sensor's mark after more pulses: absent once the sensor has cleared, else the pulses counted since it became
covered (R36). -/
def advanceExit (pulses : Nat) (cleared mark : Option Nat) : Option Nat :=
  if cleared.isSome then none else mark.map (· + pulses)

/-- The pulses for which an exit sensor has stood clear, of a span of `before` pulses that goes on: from its clearing on where it
stood covered, and none while it is covered (R41). -/
def exitClearFor (pulses before : Nat) (cleared mark : Option Nat) : Nat :=
  match mark, cleared with
  | none, _ => before + pulses
  | some _, some since => min since pulses
  | some _, none => 0

/-- The pulses for which no record, a clear edge sensor and two clear exit sensors have held together (R41). -/
def pathClearFor (path : PathCount) (n : Ntg) : Nat :=
  if n.records.isEmpty && !n.edge then
    min (exitClearFor path.pulses n.clearFor path.clearedS n.exitS) (exitClearFor path.pulses n.clearFor path.clearedR n.exitR)
  else 0

/-- Encoder pulses are counted while the motor is driven (R20); the exit sensors' levels are followed in every state (R36). -/
def ntgAdvance (path : PathCount) (n : Ntg) : Ntg :=
  if n.state.motor then
    { n with sinceStart := n.sinceStart + path.pulses, records := n.records.map (advanceRecord path.pulses),
             exitS := advanceExit path.pulses path.clearedS n.exitS, exitR := advanceExit path.pulses path.clearedR n.exitR,
             clearFor := pathClearFor path n }
  else { n with exitS := advanceExit 0 path.clearedS n.exitS, exitR := advanceExit 0 path.clearedR n.exitR }

/-- An exit sensor has become covered (R36). -/
def coverExit (side : Side) (n : Ntg) : Ntg :=
  match side with
  | .stacker => { n with exitS := some 0 }
  | .reject => { n with exitR := some 0 }

/-- Whether a mark has reached a number of pulses (log 1). -/
def reached (mark : Option Nat) (pulses : Nat) : Bool :=
  match mark with
  | some m => pulses ≤ m
  | none => false

/-! ### Records -/

/-- The route of the oldest PAST_GAUGE record (R36). -/
def oldestRoute (records : List ObjRec) : Option Side :=
  match records.find? (fun r => r.stage = .pastGauge) with
  | some r => r.route
  | none => none

/-- The diverter follows the oldest PAST_GAUGE record and rests on the reject side (R36); a halt keeps it (R38). -/
def ntgDivert (n : Ntg) : Ntg :=
  if n.state = .halted then n
  else { n with diverter := if oldestRoute n.records = some .stacker then .stacker else .reject }

/-- The first record of a stage changed. -/
def changeFirst (stage : Stage) (f : ObjRec → ObjRec) : List ObjRec → List ObjRec
  | [] => []
  | r :: rest => if r.stage = stage then f r :: rest else r :: changeFirst stage f rest

/-- The first record of a stage removed. -/
def removeFirst (stage : Stage) : List ObjRec → List ObjRec
  | [] => []
  | r :: rest => if r.stage = stage then rest else r :: removeFirst stage rest

/-- The first record of a stage. -/
def firstOf (stage : Stage) (records : List ObjRec) : Option ObjRec := records.find? (fun r => r.stage = stage)

/-- A record in stage PICKED for a slot, as a firing appends it (R26). -/
def pickedRecord (k : Slot) : ObjRec :=
  { slot := some k, stage := .picked, sincePick := some 0, sinceLead := none, sinceTrail := none, counts := none,
    indices := none, length := none, gauge := none, lengthClass := none, outcome := none, reason := none,
    estimate := none, route := none, purge := false }

/-- The record of an unknown object that reaches the gauge in a purge run (R40). -/
def unknownRecord : ObjRec :=
  { slot := none, stage := .atGauge, sincePick := none, sinceLead := some 0, sinceTrail := none, counts := none,
    indices := none, length := none, gauge := none, lengthClass := none, outcome := none, reason := none,
    estimate := none, route := none, purge := true }

/-- A record whose object reaches the edge sensor (R27). -/
def toGauge (r : ObjRec) : ObjRec := { r with stage := .atGauge, sinceLead := some 0 }

/-! ### Orders, withdrawals, halts and runs -/

/-- A withdrawal drops the order held; in FEEDING the transport drains or stops, in BASELINE it stops (R23, R25). The flag
says that TRANSPORT_CLEAR is reported at once. -/
def ntgWithdraw (n : Ntg) : Ntg × Bool :=
  let n := { n with order := none }
  match n.state with
  | .baseline => ({ n with state := .idle, valid := false }, true)
  | .feeding => if n.records = [] then ({ n with state := .idle }, true) else ({ n with state := .draining }, false)
  | .idle | .draining | .purge | .halted => (n, false)

/-- A pick order as R25's table takes it; the flag says ORDER_REFUSED. -/
def ntgOrder (o : PickOrder) (n : Ntg) : Ntg × Bool :=
  match n.state with
  | .idle => if n.valid then ({ n with state := .feeding, order := some o }, false) else (n, true)
  | .baseline => ({ n with order := some o }, false)
  | .feeding | .draining => ({ n with state := .feeding, order := some o }, false)
  | .purge | .halted => (n, true)

/-- A halt: motor stopped, order dropped, records and diverter kept, cause recorded (R38). -/
def ntgHalt (cause : HaltCause) (n : Ntg) : Ntg := { n with state := .halted, cause := cause, order := none }

/-- What a baseline request meets (R23). -/
inductive BaselineStart where
  | started | refused | stray
deriving DecidableEq, Repr

/-- A baseline request: taken in IDLE only, with the edge sensor clear (R23). -/
def ntgBaseline (n : Ntg) : Ntg × BaselineStart :=
  if n.state ≠ .idle then (n, .refused)
  else if n.edge then (ntgHalt .strayObject n, .stray)
  else ({ n with state := .baseline, valid := false, order := none, sinceStart := 0 }, .started)

/-- The pulse marks of a record restarted from 0 and its route turned to the reject side (R40). -/
def purgeRecord (r : ObjRec) : ObjRec :=
  { r with purge := true, route := some .reject, sincePick := r.sincePick.map (fun _ => 0),
           sinceLead := r.sinceLead.map (fun _ => 0), sinceTrail := r.sinceTrail.map (fun _ => 0) }

/-- A purge request, taken in every state (R40). An exit sensor that is covered then counts its 200 pulses from the start of
the run, as the marks of the records do (log 34). DESIGN CHOICE, unsafe (log 47): an edge sensor that is covered already, with
no record at the gauge, gets no record, for R40 makes one at a leading edge. -/
def ntgPurge (n : Ntg) : Ntg :=
  { n with state := .purge, cause := .none, order := none, valid := n.valid && n.state ≠ .baseline,
           records := n.records.map purgeRecord, diverter := .reject, sinceStart := 0, purged := 0,
           exitS := n.exitS.map (fun _ => 0), exitR := n.exitR.map (fun _ => 0), clearFor := 0 }

/-- What a restart does to the transport before its purge: order dropped, a baseline abandoned, motor stopped, records kept;
a HALTED transport stays HALTED (R42). A lane fault from another source stops it in the same way, so that its records keep
where they stood (R67; log 32). -/
def ntgStop (n : Ntg) : Ntg :=
  match n.state with
  | .halted => { n with order := none }
  | .baseline => { n with order := none, state := .idle, valid := false }
  | .idle | .feeding | .draining | .purge => { n with order := none, state := .idle }

/-- The last record was removed in DRAINING: the motor stops and TRANSPORT_CLEAR is reported, as the flag says (R39). -/
def ntgDrained (n : Ntg) : Ntg × Bool :=
  if n.state = .draining ∧ n.records = [] then ({ n with state := .idle, order := none }, true) else (n, false)

/-! ### Measurement -/

/-- A gauge counter saturates (R23, R29). -/
def gaugeCount (cycles : Nat) : Nat := min 65535 cycles

/-- A baseline count in range (R24). -/
def baselineOk (c0 : Nat) : Bool := 256 ≤ c0 && c0 ≤ 65534

/-- The thickness index of a channel (R30). -/
def thickness (c0 cn : Nat) : Nat :=
  if c0 ≤ cn then 0 else clampTo 0 1023 (((c0 - cn) * 1024 + c0 / 2) / c0)

/-- The class of a channel against its reference (R31). -/
def channelClass (t ref8 : Nat) : ChannelClass :=
  if 64 * t < 5 * ref8 then .low
  else if 64 * t ≤ 13 * ref8 then .one
  else if 64 * t ≤ 21 * ref8 then .two
  else .many

/-- The gauge class of two channels, the tests in the order of R32. -/
def gaugeClass (l r : ChannelClass) : GaugeClass :=
  if l = .many ∨ r = .many then .multiple
  else if l = .low ∨ r = .low then .thin
  else if (l = .one ∧ r = .two) ∨ (l = .two ∧ r = .one) then .folded
  else if l = .two ∧ r = .two then .double
  else .single

/-- The length class of an object against a nominal length (R33). -/
def lengthClass (length nominal : Nat) : LengthClass :=
  if length < nominal - 12 then .short else if nominal + 12 < length then .chained else .ok

/-- The length at which a covered edge sensor is a long object (R33). -/
def longLimit (nominal : Nat) : Nat := 2 * nominal + 40

/-- The nominal length an object is held against: its cassette's, or the longest for an unknown object (R33, R40). -/
def nominalOf (cas : Four Cassette) : Option Slot → Nat
  | some k => (cas.get k).nominal
  | none => 400

/-- The note estimate of a gauge class (R34). -/
def gaugeEstimate : Option GaugeClass → Nat
  | none | some .single | some .thin | some .folded => 1
  | some .double => 2
  | some .multiple => 3

/-- The note estimate of a length class (R34). -/
def lengthEstimate : LengthClass → Nat
  | .short | .ok => 1
  | .chained => 2

/-- The reject reason an object's classes give it (R34): a gauge class other than SINGLE first, else the length class. -/
def rejectReason (g : Option GaugeClass) (l : LengthClass) : Option RejectReason :=
  match g with
  | some .thin => some .thin
  | some .folded => some .folded
  | some .double => some .double
  | some .multiple => some .multiple
  | none | some .single =>
    match l with
    | .short => some .short
    | .chained => some .chained
    | .ok => none

/-- An ACCEPT is SINGLE and of OK length (R34). -/
def accepts (g : Option GaugeClass) (l : LengthClass) : Bool := g = some .single && l = .ok

/-- The gate of an AT_GAUGE record closes with the edge sensor covered: counts, indices and gauge class (R29 to R32). -/
def gateClosed (cas : Four Cassette) (c0L c0R cnL cnR : Nat) (r : ObjRec) : ObjRec :=
  let tL := thickness c0L cnL
  let tR := thickness c0R cnR
  { r with
    counts := some (cnL, cnR), indices := some (tL, tR),
    gauge := r.slot.map (fun k => gaugeClass (channelClass tL (cas.get k).ref8L) (channelClass tR (cas.get k).ref8R)) }

/-- An AT_GAUGE record at its trailing edge outside a purge run (R29, R33, R34). -/
def measured (cas : Four Cassette) (gateLength : Nat) (r : ObjRec) : ObjRec :=
  let length := r.sinceLead.getD 0
  let absent := length ≤ Config.gateLead + gateLength
  let gauge := if absent then none else r.gauge
  let lc := lengthClass length (nominalOf cas r.slot)
  let accept := accepts gauge lc
  { r with
    stage := .pastGauge, sinceTrail := some 0, length := some length, gauge := gauge, lengthClass := some lc,
    counts := if absent then none else r.counts, indices := if absent then none else r.indices,
    outcome := some (if accept then .accept else .reject),
    reason := if accept then none else rejectReason gauge lc,
    estimate := some (max (gaugeEstimate gauge) (lengthEstimate lc)),
    route := some (if accept then .stacker else .reject) }

/-- An AT_GAUGE record at its trailing edge in a purge run: not measured for thickness, note estimate 1 unless it had
one, on its way to the reject exit (R40). -/
def purgedEdge (cas : Four Cassette) (r : ObjRec) : ObjRec :=
  let length := r.sinceLead.getD 0
  { r with
    stage := .pastGauge, sinceTrail := some 0, length := some length,
    lengthClass := some (lengthClass length (nominalOf cas r.slot)), outcome := some .reject, reason := some .purged,
    estimate := some (r.estimate.getD 1), route := some .reject, purge := true }

/-- The last measured object as QUERY shows it (R43). -/
def lastOf (r : ObjRec) : Measured :=
  { slot := r.slot, indices := r.indices, length := r.length.getD 0, gauge := r.gauge,
    lengthClass := r.lengthClass.getD .short, outcome := r.outcome.getD .reject, reason := r.reason,
    estimate := r.estimate.getD 1 }

/-- What a hand-over carries outside a purge run, by the side of the arrival (R37). -/
def routedOf (r : ObjRec) (side : Side) : Routed :=
  if r.route = some .stacker ∧ side = .reject then
    { slot := r.slot, outcome := .reject, reason := some .diverted, estimate := 1, exit := .reject }
  else
    { slot := r.slot, outcome := r.outcome.getD .reject, reason := r.reason, estimate := r.estimate.getD 1, exit := side }

/-- What a hand-over carries in a purge run (R40). -/
def purgedOf (r : Option ObjRec) : Routed :=
  match r with
  | some r => { slot := r.slot, outcome := .reject, reason := some .purged, estimate := r.estimate.getD 1, exit := .reject }
  | none => { slot := none, outcome := .reject, reason := some .purged, estimate := 1, exit := .reject }

/-! ### Firing -/

/-- The slot from which a pick fires now, if every condition of R26 holds. -/
def fires (s : State) : Option Slot :=
  match s.ntg.order with
  | some o =>
    if s.ntg.state = .feeding ∧ s.ntg.records.all (fun r => r.stage = .pastGauge)
        ∧ s.dsp.stackerCount + s.ntg.records.length < o.target
        ∧ (s.cas.get o.slot).state.eligible = true ∧ s.lockdown = false
    then some o.slot else none
  | none => none

/-- The diverter follows, and a pick fires if its conditions hold (R26, R36). -/
def settleNtg (s : State) : State :=
  let s := { s with ntg := ntgDivert s.ntg }
  match fires s with
  | some k => drive (.pick k) { s with ntg.records := s.ntg.records ++ [pickedRecord k] }
  | none => s

end Sys2Proof.Machine
end

