-- ==== Sys2Proof/Machine/Drw.lean ====
section
/-!
DEFINITION. The drawer controller's own movements: when it is free, the taking of a request, retract orders, back-off and the notes
request's pending slot (R72 to R78, R81, R86, R87). What a jam or a home arrival tells the other blocks is in Lsv.lean.
-/

namespace Sys2Proof.Machine

open Sys2Proof

/-- The motion limit, 4 s (R77, R78, R81, R87). -/
def motionLimit : Nat := 4000
/-- The transfer stroke and the sweep, 1 s each (R77, R83). -/
def strokeTime : Nat := 1000
/-- The tray-empty timer, 1 s (R73). -/
def trayEmptyTime : Nat := 1000
/-- The obstruction wait, 3 s (R81). -/
def obstructWait : Nat := 3000
/-- The pocket's report is awaited for 5 s (R77). -/
def loadLimit : Nat := 5000

/-- Purposes whose item is watched by the tray-empty timer (R73). -/
def Purpose.presents : Purpose → Bool
  | .notes | .ret => true
  | .none | .deposit => false

/-- The drawer is free (R74). -/
def State.drawerFree (s : State) : Bool :=
  s.drw.state = .closed && s.drw.purpose = .none && s.drw.sweep.isNone && !s.ink.state.busy && !s.lockdown

/-! ### Retraction -/

/-- The drawer begins to travel in: motion limit at 4 s, take and deposit timers stopped (R78). A safety edge that is pressed at that
moment is looked at where the rule says so alone (log 42). -/
def beginRetraction (d : Drw) : Drw :=
  { d with state := .retracting, mode := .standing, motion := some motionLimit, take := none, deposit := none,
           obstruct := none, retractNext := false }

/-- A retract order, by the state that meets it (R78). -/
def retractOrder (d : Drw) : Drw :=
  match d.state with
  | .closed | .jammed => d
  | .retracting => { d with obstructions := 0 }
  | .extending =>
    match d.phase with
    | .load => { d with obstructions := 0, hold := true }
    | .travel => beginRetraction { d with obstructions := 0 }
  | .opened =>
    match d.mode with
    | .standing => beginRetraction { d with obstructions := 0 }
    | .backingOff => { d with obstructions := 0, retractNext := true }
    | .waiting | .edgeWait =>
      if d.safe then { d with obstructions := 0, mode := .edgeWait, obstruct := none }
      else beginRetraction { d with obstructions := 0 }

/-- The retract order the beginning of lockdown makes: a drawer backing off or waiting goes on as it is (R86; log 21). -/
def lockdownOrder (d : Drw) : Drw :=
  if d.state = .extending ∨ (d.state = .opened ∧ d.mode = .standing) then retractOrder d else d

/-- The timer of the purpose at its full value, for a drawer standing after three obstructions (R81). -/
def restartTimer (d : Drw) : Drw :=
  match d.purpose with
  | .deposit => { d with deposit := some (d.depositTimeout * 1000) }
  | .none | .notes | .ret => { d with take := some (d.takeTimeout * 1000) }

/-- The tray level as the tray-empty timer follows it (R73): it runs with purpose NOTES or RETURN in OPEN or RETRACTING once
the drawer has reached OPEN. -/
def followTray (covered : Bool) (d : Drw) : Drw :=
  let d := { d with tray := covered }
  if covered then { d with trayEmpty := none }
  else if d.purpose.presents ∧ (d.state = .opened ∨ d.state = .retracting) ∧ d.reachedOpen ∧ d.trayEmpty = none
    then { d with trayEmpty := some trayEmptyTime }
  else d

/-- The safety edge meets resistance while RETRACTING: an obstruction (R81). The drawer becomes OPEN, for a drawer reversed in
travel the first time, and the tray-empty timer follows as at every arrival at OPEN (R73; log 33). DESIGN CHOICE, unsafe (log 33): it
is no arrival at OPEN for R83 to R85, so that no BUNDLE_PRESENTED or OPENED is queued and no take or deposit timer starts. -/
def obstructed (d : Drw) : Drw :=
  followTray d.tray { d with
    state := .opened, mode := .backingOff, obstructions := min 3 (d.obstructions + 1), motion := some motionLimit,
    retractNext := false, reachedOpen := true }

/-! ### Taking a request -/

/-- The taking of a request: the purpose set, the marks cleared, the extension begun (R74, R77). -/
def extend (purpose : Purpose) (phase : ExtPhase) (d : Drw) : Drw :=
  { d with state := .extending, purpose := purpose, phase := phase, reported := false, hold := false,
           reachedOpen := false, mode := .standing, trayEmpty := none,
           motion := if phase = .travel then some motionLimit else none }

/-- The wait of an item is dropped when the drawer takes a request (R92). -/
def dropWait (s : State) : State :=
  if s.ink.state = .waiting then { s with ink.state := .idle } else s

/-- The drawer takes a deposit: no load phase (R75, R77). -/
def takeDeposit (s : State) : State := dropWait { s with drw := extend .deposit .travel s.drw }

/-- The drawer takes the pending notes request and begins its transfer stroke (R76, R77). -/
def takeNotes (req : NotesReq) (s : State) : State :=
  dropWait { s with drw := { extend .notes .load s.drw with
    pendingReq := none, blocked := false, served := some req, stroke := some strokeTime } }

/-- The drawer takes a return request; its load phase waits for the pocket's report (R77, R112). -/
def takeReturn (seq : Nat) (s : State) : State :=
  dropWait { s with drw := { extend .ret .load s.drw with returnSeq := some seq, load := some loadLimit } }

/-- The dispense engine's request placed in the pending slot (R76). -/
def postNotes (req : NotesReq) (s : State) : State := { s with drw.pendingReq := some req, drw.blocked := false }

/-- The dispense engine withdraws its request (R76). -/
def withdrawNotes (s : State) : State := { s with drw.pendingReq := none, drw.blocked := false }

/-- A retract request from the dispense engine: with any purpose other than NOTES it has no effect (R78). -/
def retractRequest (s : State) : State :=
  if s.drw.purpose = .notes then { s with drw := retractOrder s.drw } else s

/-- The pending notes request is taken once the drawer is free with an empty tray; an occupied tray blocks it, once reported
(R76). The dispense engine is told and enters PRESENTING (R56). -/
def settleDrw (s : State) : State :=
  match s.drw.pendingReq with
  | some req =>
    if s.drawerFree then
      if s.drw.tray then
        if s.drw.blocked then s else trayItem .blockingNotes 0 { s with drw.blocked := true }
      else
        let s := takeNotes req s
        if s.dsp.state = .stacked then { s with dsp.state := .presenting } else s
    else s
  | none => s

end Sys2Proof.Machine
end

