-- ==== Sys2Proof/Machine/Dsp.lean ====
section
/-!
DEFINITION. The dispense engine: the end of a dispense, the pick list, reservation, picking, presentation, suspension, cancel,
lockdown and restart (R44 to R71), and the fault report that ends a dispense (R67, R185).
-/

namespace Sys2Proof.Machine

open Sys2Proof

/-! ### Counting into the bins -/

/-- The suspend timer, 60 s (R59). -/
def suspendTime : Nat := 60000

/-- Notes added to the reject-bin count, saturating at the capacity; the overflow flag is set when the addition is cut
short (R53, R64, R70). -/
def addReject (notes : Nat) (d : Dsp) : Dsp :=
  { d with rejectCount := min d.rejectCap (d.rejectCount + notes),
           overflow := d.overflow || d.rejectCap < d.rejectCount + notes }

/-- The stacker emptied into the reject bin at the end of a dispense (R64). -/
def emptyStacker (d : Dsp) : Dsp :=
  { addReject d.stackerCount d with rejected := d.rejected + d.stackerCount }

/-! ### The end of a dispense (R65) -/

/-- The pairs of slot and picked count of DISPENSE_ENDED, one for each mix slot in slot order (R65, R179). -/
def pickedPairs (d : Dsp) : List Byte :=
  (Slot.all.filter (fun k => d.mixSlots.get k)).flatMap (fun k => be1 k.number ++ be2 (d.picked.get k))

/-- The payload of DISPENSE_ENDED (R65, R179). -/
def dispenseEnded (reason : EndReason) (d : Dsp) : List Byte :=
  be1 reason.code ++ be3 d.amount ++ be3 d.paid ++ be1 d.taken ++ be1 d.retracted ++ be2 d.rejected ++ pickedPairs d

/-- The state a dispense leaves DSP in (R65): FAULT after a JAM, PURGING after a RESTART, IDLE otherwise. -/
def afterEnd : EndReason → DspState
  | .jam => .fault
  | .restart => .purging
  | .complete | .cancelled | .wallLimit | .busFault | .lockdown | .retracted | .tooManyRejects | .suspendTimeout
  | .gaugeFault => .idle

/-- The end of a dispense with a reason (R65): own exposure 0, RELEASE if the RESERVE left, pick list cleared, notes left on the
stacker noted after a jam, a lane fault or a restart (the ends that do not lead to IDLE), DISPENSE_ENDED, the state after. -/
def dspEnd (reason : EndReason) (after : DspState) (s : State) : State :=
  let s := setOwnExposure 0 s
  let s := if s.dsp.reservation = .sent then queueWall (.release s.dsp.amount) s else s
  let left := if after ≠ .idle ∧ s.dsp.state ≠ .presenting then s.dsp.stackerCount else s.dsp.leftover
  let s := { s with dsp.pickList := [], dsp.leftover := left, dsp.stackerCount := 0, dsp.inStacker := 0 }
  let s := queueEvent kindDispenseEnded (dispenseEnded reason s.dsp) s
  { s with dsp.state := after, dsp.dispensing := false, dsp.withdrawPending := false, dsp.suspendTimer := none }

/-- TRANSPORT_CLEAR, or a transport already IDLE, at the end of a dispense that goes by a purge (R64). -/
def finishPurge (s : State) : State :=
  let s := { s with dsp := emptyStacker s.dsp }
  dspEnd (s.dsp.pendingEnd.getD .cancelled) .idle s

/-- A dispense that ends by way of a purge (R64): the pending reason is recorded, the transport is withdrawn, and the stacker is
emptied once the transport is clear. -/
def dspEndByPurge (reason : EndReason) (s : State) : State :=
  let s := { s with dsp.pendingEnd := some reason, dsp.state := .purging, dsp.suspendTimer := none,
                    dsp.withdrawPending := false }
  if s.ntg.state = .idle then finishPurge s
  else
    let w := ntgWithdraw s.ntg
    let s := { s with ntg := w.1 }
    if w.2 then finishPurge s else s

/-- The RESERVE of the dispense is in transmission (R63). -/
def State.reserveSending (s : State) : Bool :=
  match s.sending with
  | some (.reserve _) => true
  | some (.release _) | some .claim | some (.chuteRelease _) | none => false

/-- A dispense ended while RESERVING, by its reservation mark (R63). A second reason recorded while the RESERVE is in
transmission changes the first only to JAM (log 16). -/
def dspEndReserving (reason : EndReason) (s : State) : State :=
  if s.reserveSending then
    if s.dsp.pendingEnd = none ∨ reason = .jam then { s with dsp.pendingEnd := some reason } else s
  else dspEnd reason (afterEnd reason) (dropWall (.reserve s.dsp.amount) s)

/-! ### Jams and lane faults (R67, R185) -/

/-- A jam or a lane fault reaches DSP (R67): a running dispense ends with JAM, the transport keeps its records where they stood
(log 32); IDLE, FAULT and a purge without a dispense are left as they are. -/
def dspFault (s : State) : State :=
  match s.dsp.state with
  | .idle | .fault => s
  | .reserving => dspEndReserving .jam s
  | .purging => if s.dsp.dispensing then dspEnd .jam .fault { s with ntg := ntgStop s.ntg, dsp.pendingEnd := some .jam } else s
  | .baseline | .picking | .stacked | .presenting | .suspended =>
    dspEnd .jam .fault { s with ntg := ntgStop s.ntg }

/-- A fault report to the lane supervisor (R185): the lane enters FAULT and DSP is told; in SERVICE the report is held. -/
def faultReport (s : State) : State :=
  match s.lsv.lane with
  | .purging | .listening | .closed | .opened => dspFault { s with lsv.lane := .fault }
  | .service => { s with lsv.heldFault := true }
  | .starting | .awaitConfig | .fault => s

/-- The transport halts outside a purge run and reports JAM to DSP and LSV (R38, R67, R185). -/
def ntgJam (cause : HaltCause) (s : State) : State :=
  faultReport (dspFault { s with ntg := ntgHalt cause s.ntg })

/-! ### The pick list (R48, R49) -/

/-- A PICK entry as it is built. -/
def pickEntry (k : Slot) (wanted : Nat) : Entry := { kind := .pick, slot := k, wanted := wanted, done := 0, state := .pending }

/-- A PRESENT or PRESENT_FINAL entry as it is built. -/
def closeEntry (kind : EntryKind) : Entry := { kind := kind, slot := .one, wanted := 0, done := 0, state := .pending }

/-- One cassette's count placed into bundles of `limit` notes, the current one with `room` left (R48): the entries made and the
room left after them. A full bundle is closed only when more notes follow. -/
def placeCount (limit : Nat) (k : Slot) : (fuel room n : Nat) → List Entry × Nat
  | 0, room, _ => ([], room)
  | fuel + 1, room, n =>
    if n = 0 then ([], room)
    else if room = 0 then
      let r := placeCount limit k fuel limit n
      (closeEntry .present :: r.1, r.2)
    else if n ≤ room then ([pickEntry k n], room - n)
    else
      let r := placeCount limit k fuel 0 (n - room)
      (pickEntry k room :: r.1, r.2)

/-- The pick list of a mix, the current bundle with `room` left (R48, R60). -/
def buildList (limit : Nat) : (room : Nat) → Mix → List Entry
  | _, [] => [closeEntry .presentFinal]
  | room, (k, n) :: rest =>
    let r := placeCount limit k (2 * n + 1) room n
    r.1 ++ buildList limit r.2 rest

/-- The first entry of a state. -/
def entryIn (st : EntryState) (l : List Entry) : Option Entry := l.find? (fun e => e.state = st)

/-- The first entry of a state changed. -/
def changeEntry (st : EntryState) (f : Entry → Entry) : List Entry → List Entry
  | [] => []
  | e :: rest => if e.state = st then f e :: rest else e :: changeEntry st f rest

/-- The pick order of an entry: its stack target is the stacker count plus wanted less done (R49). -/
def orderOf (e : Entry) (stackerCount : Nat) : PickOrder :=
  { slot := e.slot, target := stackerCount + e.wanted - e.done }

/-- DSP enters SUSPENDED (R59). -/
def dspSuspend (s : State) : State := { s with dsp.state := .suspended, dsp.suspendTimer := some suspendTime }

/-- The notes request of the bundle that is complete (R56). -/
def notesRequest (d : Dsp) (final : Bool) : NotesReq := { bundle := d.bundle, count := d.stackerCount, final := final }

/-- The first PENDING entry becomes ACTIVE (R49, R55). A PICK entry whose slot is not eligible suspends the dispense, with
the transport withdrawn so that it is IDLE as R64 says (log 24); a PRESENT entry withdraws the transport and posts the notes
request. -/
def dspActivate (s : State) : State :=
  match entryIn .pending s.dsp.pickList with
  | none => s
  | some e =>
    let s := { s with dsp.pickList := changeEntry .pending (fun e => { e with state := .active }) s.dsp.pickList }
    match e.kind with
    | .pick =>
      if (s.cas.get e.slot).state.eligible then
        let o := ntgOrder (orderOf e s.dsp.stackerCount) s.ntg
        if o.2 then dspEndByPurge .gaugeFault { s with ntg := o.1 } else { s with ntg := o.1 }
      else dspSuspend { s with ntg := (ntgWithdraw s.ntg).1 }
    | .present => postNotes (notesRequest s.dsp false) { s with ntg := (ntgWithdraw s.ntg).1, dsp.state := .stacked }
    | .presentFinal => postNotes (notesRequest s.dsp true) { s with ntg := (ntgWithdraw s.ntg).1, dsp.state := .stacked }

/-! ### Taking a dispense (R46, R47, R60) -/

/-- The checks of R46 orders 1 to 8, which come before those of the mix. -/
def dispenseChecks (source : Station) (s : State) : List (Bool × Code) :=
  openChecks source s ++
  [(s.silent, .notReady), (s.lockdown, .lockdown), (s.dsp.state ≠ .idle, .busy), (s.listening, .busy),
   (s.dsp.rejectCap - s.dsp.rejectCount < 12 + s.dsp.bundleLimit, .rejectBinFull),
   (s.dsp.retractCap - s.dsp.retractCount < s.dsp.bundleLimit, .retractBinFull)]

/-- A dispense accepted with its mix (R47): the record set afresh, the pick list built, the RESERVE queued. -/
def dspAccept (amount : Nat) (mix : Mix) (s : State) : State :=
  queueWall (.reserve amount)
    { s with dsp := { s.dsp with
        state := .reserving, amount := amount, delivered := 0, paid := 0, inStacker := 0, stackerCount := 0, taken := 0,
        retracted := 0, rejected := 0, rejectEvents := 0, picked := Four.replicate 0, mixSlots := mix.slots, bundle := 1,
        reservation := .queued, cancelMark := false, lockMark := false, pendingEnd := none, suspendTimer := none,
        pickList := buildList s.dsp.bundleLimit s.dsp.bundleLimit mix, dispensing := true, withdrawPending := false } }

/-- DISPENSE once R46's start checks have passed: the amount, the search, the acceptance (R12 to R16, R47). -/
def dspDispense (amount : Nat) (s : State) : State × Reply :=
  if amount = 0 ∨ Config.maxAmount < amount then refuse .badParam s
  else match findMix s.cas amount (4 * s.dsp.bundleLimit) with
    | some mix => (dspAccept amount mix s, some (.ok, mix.detail))
    | none => refuse .notMakeable s

/-- DISPENSE_MIX once R46's start checks have passed (R17, R47). -/
def dspDispenseMix (counts : Four Nat) (s : State) : State × Reply :=
  checked (mixChecks s.cas s.dsp.bundleLimit counts)
    (fun s => let mix := askedMix s.cas counts
              (dspAccept (mix.value s.cas) mix s, some (.ok, mix.detail))) s

/-- CONTINUE in SUSPENDED (R60): a new mix of the remaining amount replaces the pick list. -/
def dspContinue (s : State) : State × Reply :=
  match findMix s.cas (s.dsp.amount - s.dsp.delivered) (4 * s.dsp.bundleLimit - (s.dsp.taken + s.dsp.stackerCount)) with
  | none => refuse .notMakeable s
  | some mix =>
    let m := mix.slots
    let old := s.dsp.mixSlots
    let s := { s with
      dsp.pickList := buildList s.dsp.bundleLimit (s.dsp.bundleLimit - s.dsp.stackerCount) mix,
      dsp.mixSlots := ⟨old.one || m.one, old.two || m.two, old.three || m.three, old.four || m.four⟩,
      dsp.suspendTimer := none, dsp.state := .picking }
    (dspActivate s, some (.ok, mix.detail))

/-! ### Reservation and baseline (R50, R51, R63) -/

/-- What became of the own RESERVE (R50). -/
inductive ReserveOutcome where
  | passed | failed | void
deriving DecidableEq, Repr

/-- The baseline request of a dispense whose reservation passed (R50, R23): a covered edge sensor halts the transport. -/
def askBaseline (s : State) : State :=
  let b := ntgBaseline s.ntg
  match b.2 with
  | .started => { s with ntg := b.1, dsp.state := .baseline }
  | .refused => dspEndByPurge .gaugeFault s
  | .stray => ntgJam .strayObject { s with dsp.state := .baseline }

/-- The own RESERVE has ended DELIVERED, UNHEARD or VOID (R50); a recorded end reason is taken first (R63). -/
def dspReserved (o : ReserveOutcome) (s : State) : State :=
  if s.dsp.state = .reserving then
    let s := { s with dsp.reservation := .sent }
    match s.dsp.pendingEnd with
    | some reason => dspEnd reason (afterEnd reason) s
    | none =>
      match o with
      | .passed => askBaseline s
      | .failed => dspEnd .wallLimit .idle s
      | .void => dspEnd .busFault .idle s
  else s

/-- The own RESERVE lost arbitration: it stays QUEUED, unless an end reason is recorded (R50, R63). -/
def dspReserveLost (s : State) : State :=
  if s.dsp.state = .reserving then
    match s.dsp.pendingEnd with
    | some reason => dspEnd reason (afterEnd reason) (dropWall (.reserve s.dsp.amount) s)
    | none => s
  else s

/-- The bus interface enters QUIET: a RESERVE still queued is withdrawn (R50). -/
def dspQuiet (s : State) : State :=
  if s.dsp.state = .reserving ∧ s.dsp.reservation = .queued ∧ s.reserveSending = false then
    dspEnd .busFault .idle (dropWall (.reserve s.dsp.amount) s)
  else s

/-- BASELINE_DONE or GAUGE_FAULT from the gate's closing (R51). -/
def dspBaseline (ok : Bool) (s : State) : State :=
  if s.dsp.state = .baseline then
    if ok then dspActivate { s with dsp.state := .picking } else dspEndByPurge .gaugeFault s
  else s

/-! ### Picking (R52 to R55, R59) -/

/-- TRANSPORT_CLEAR (R59, R64). -/
def dspOnClear (s : State) : State :=
  if s.dsp.state = .purging ∧ s.dsp.dispensing = true then finishPurge s
  else if s.dsp.state = .picking ∧ s.dsp.withdrawPending = true then
    let s := { s with dsp.withdrawPending := false }
    match entryIn .active s.dsp.pickList with
    | none => dspActivate s
    | some _ => dspSuspend s
  else s

/-- The slot of the ACTIVE PICK entry has left OK or LOW while PICKING: the transport is withdrawn (R59). -/
def dspSlotCheck (s : State) : State :=
  if s.dsp.state = .picking ∧ s.dsp.withdrawPending = false then
    match entryIn .active s.dsp.pickList with
    | none => s
    | some e =>
      if e.kind = .pick ∧ (s.cas.get e.slot).state.eligible = false then
        let w := ntgWithdraw s.ntg
        let s := { s with ntg := w.1, dsp.withdrawPending := true }
        if w.2 then dspOnClear s else s
      else s
  else s

/-- A change of a cassette record, its event (R8), and what it means for the dispense (R59). -/
def casReport (k : Slot) (f : Cassette → Cassette × Option CasCause) (s : State) : State :=
  dspSlotCheck (casApply k f s)

/-- An amount added to the picked count of an object's slot. -/
def addPicked (slot : Option Slot) (n : Nat) (d : Dsp) : Dsp :=
  match slot with
  | some k => { d with picked := d.picked.modify k (· + n) }
  | none => d

/-- The denomination CAS holds for an object's slot (R52). -/
def denominationOf (cas : Four Cassette) : Option Slot → Nat
  | some k => (cas.get k).denomination
  | none => 0

/-- One more accepted note of the ACTIVE entry; it becomes DONE at wanted (R52). -/
def countDone (e : Entry) : Entry :=
  if e.kind = .pick then
    { e with done := e.done + 1, state := if e.done + 1 = e.wanted then .done else e.state }
  else e

/-- An ACCEPT at the stacker exit (R52). -/
def dspStacked (r : Routed) (s : State) : State :=
  let value := denominationOf s.cas r.slot
  let finished : Bool := match entryIn .active s.dsp.pickList with
    | some e => e.kind = .pick && e.done + 1 = e.wanted
    | none => false
  let s := { s with dsp := addPicked r.slot 1 { s.dsp with
    stackerCount := s.dsp.stackerCount + 1, delivered := s.dsp.delivered + value, inStacker := s.dsp.inStacker + value,
    pickList := changeEntry .active countDone s.dsp.pickList } }
  if finished ∧ s.dsp.state = .picking ∧ s.dsp.withdrawPending = false then dspActivate s else s

/-- A reject (R53): counted into the bin and, while PICKING, as a reject event; the 13th ends the dispense. -/
def dspRejected (r : Routed) (s : State) : State :=
  let d := { addReject r.estimate s.dsp with rejected := s.dsp.rejected + r.estimate }
  let s := { s with dsp := addPicked r.slot r.estimate d }
  if s.dsp.state = .picking then
    if s.dsp.rejectEvents < Config.maxRejectEvents then { s with dsp.rejectEvents := s.dsp.rejectEvents + 1 }
    else dspEndByPurge .tooManyRejects s
  else s

/-- A routed object handed over outside a purge run (R52 to R54). -/
def dspHandOver (r : Routed) (s : State) : State :=
  match r.exit with
  | .reject => dspRejected r s
  | .stacker =>
    match r.outcome with
    | .accept => dspStacked r s
    | .reject => { s with dsp := addPicked r.slot r.estimate { s.dsp with stackerCount := s.dsp.stackerCount + 1 } }

/-! ### Presentation (R57, R58) -/

/-- The payload of BUNDLE_TAKEN (R57). -/
def bundleTaken (d : Dsp) : List Byte := be1 d.bundle ++ be1 d.stackerCount ++ be3 d.inStacker

/-- The drawer reports the bundle taken (R57). -/
def dspTaken (s : State) : State :=
  if s.dsp.state = .presenting then
    let final : Bool := match entryIn .active s.dsp.pickList with
      | some e => e.kind ≠ .present
      | none => true
    let s := queueEvent kindBundleTaken (bundleTaken s.dsp) s
    let s := { s with
      dsp.taken := s.dsp.taken + s.dsp.stackerCount, dsp.paid := s.dsp.paid + s.dsp.inStacker,
      dsp.stackerCount := 0, dsp.inStacker := 0,
      dsp.pickList := changeEntry .active (fun e => { e with state := .done }) s.dsp.pickList }
    if s.dsp.lockMark then dspEnd .lockdown .idle s
    else if s.dsp.cancelMark ∨ final then dspEnd .complete .idle s
    else dspActivate { s with dsp.bundle := s.dsp.bundle + 1, dsp.state := .picking }
  else s

/-- The end of a presentation that brought the bundle back (R58). -/
def dspUntaken (s : State) : State := dspEnd (if s.dsp.lockMark then .lockdown else .retracted) .idle s

/-- The drawer reports the bundle swept into the retract bin (R58). -/
def dspRetracted (s : State) : State :=
  if s.dsp.state = .presenting then
    dspUntaken { s with dsp.retractCount := min s.dsp.retractCap (s.dsp.retractCount + s.dsp.stackerCount),
                        dsp.retracted := s.dsp.stackerCount }
  else s

/-- The drawer reports that the sweep failed (R58). -/
def dspSweepFailed (s : State) : State := if s.dsp.state = .presenting then dspUntaken s else s

/-- The drawer reports itself jammed while DSP is PRESENTING (R58, R67). -/
def dspDrawerJammed (s : State) : State := if s.dsp.state = .presenting then dspEnd .jam .fault s else s

/-! ### Cancel, suspend timer, lockdown, restart (R61, R62, R66, R70) -/

/-- CANCEL's effect by DSP's state (R62). -/
def dspCancel (s : State) : State × Reply :=
  match s.dsp.state with
  | .reserving => (dspEndReserving .cancelled s, plain .ok)
  | .baseline | .picking | .suspended => (dspEndByPurge .cancelled s, plain .ok)
  | .stacked => (dspEndByPurge .cancelled (withdrawNotes s), plain .ok)
  | .presenting => (retractRequest { s with dsp.cancelMark := true }, plain .ok)
  | .idle | .purging | .fault => refuse .badState s

/-- Lockdown begins (R66). -/
def dspLockdown (s : State) : State :=
  match s.dsp.state with
  | .reserving => dspEndReserving .lockdown s
  | .baseline | .picking | .suspended => dspEndByPurge .lockdown s
  | .stacked => dspEndByPurge .lockdown (withdrawNotes s)
  | .presenting => { s with dsp.lockMark := true }
  | .idle | .purging | .fault => s

/-- A restart ends any dispense; no withdrawal is sent to the transport (R70). -/
def dspRestart (s : State) : State :=
  match s.dsp.state with
  | .idle | .fault => s
  | .purging => if s.dsp.dispensing then dspEnd (s.dsp.pendingEnd.getD .restart) .purging s else s
  | .reserving => dspEndReserving .restart s
  | .stacked => dspEnd .restart .purging (withdrawNotes s)
  | .baseline | .picking | .suspended | .presenting => dspEnd .restart .purging s

/-- The purge begins: the stacker's leftover goes into the reject bin and DSP is PURGING (R69, R70). -/
def dspPurgeBegins (s : State) : State :=
  { s with dsp := { addReject s.dsp.leftover s.dsp with leftover := 0, state := .purging, dispensing := false } }

end Sys2Proof.Machine
end

