-- ==== Sys2Proof/Machine/Ink.lean ====
section
/-!
DEFINITION. The intake and imprinter: numbering, the start of an intake, the print window and its strobes, reversals, ejects, jams
and the clear run's start (R89 to R107).
-/

namespace Sys2Proof.Machine

open Sys2Proof

/-! ### Numbering (R94) -/

/-- The value after a sequence number (R94). -/
def nextSeq (n : Nat) : Nat := if Config.maxSequence ≤ n then 1 else n + 1

/-- The first value from `n` on that is the number of no record in the pocket; each record is passed over once at
most (R94). -/
def freeSeq (pocket : List EnvRec) : (fuel n : Nat) → Nat
  | 0, n => n
  | fuel + 1, n => if pocket.any (fun e => e.seq = n) then freeSeq pocket fuel (nextSeq n) else n

/-- The number a consumption takes now (R94). -/
def State.takenSeq (s : State) : Nat := freeSeq s.pkt.pocket s.pkt.pocket.length s.ink.seqCounter

/-- The counter advanced past the number taken (R94). -/
def consumeSeq (s : State) : State := { s with ink.seqCounter := nextSeq s.takenSeq }

/-! ### Pulses -/

/-- A mark of the intake saturates at 65,535 (R90). -/
def inkMark (m pulses : Nat) : Nat := min 65535 (m + pulses)

/-- Intake pulses are counted while the rollers are driven (R90), also those for which the sensor stays clear (R97). -/
def inkAdvance (pulses : Nat) (k : Ink) : Ink :=
  if k.state.driven then
    { k with record := { k.record with sinceStart := inkMark k.record.sinceStart pulses,
                                       sinceLead := k.record.sinceLead.map (inkMark · pulses) },
             sinceClear := if k.sensor then 0 else k.sinceClear + pulses }
  else k

/-- The pulses counted since the trailing edge of a measured item (R96). -/
def sinceTrailing (r : IntakeRec) : Option Nat :=
  match r.sinceLead, r.length with
  | some m, some l => some (m - l)
  | _, _ => none

/-! ### The print window (R102 to R105) -/

/-- The digit of a number at a place, counted from the units (R102). -/
def digitAt (n place : Nat) : Nat := n / 10 ^ place % 10

/-- The glyph of character `k` of the field "LL-SSSSSS": its five columns and the blank sixth (R102). The shapes of the
digits are free (log 9); the dash is bit 3 in all five columns. -/
def glyphByte (station : Station) (seq k col : Nat) : Byte :=
  if 5 ≤ col then 0
  else if k = 2 then 0x08
  else if k < 2 then (Config.glyphColumn (digitAt station.toNat (1 - k)) col).setWidth 8
  else (Config.glyphColumn (digitAt seq (8 - k)) col).setWidth 8

/-- The byte of the image at a page and column: the field's where it covers the raster, else the raster's (R100, R102). -/
def imageByte (station : Station) (w : PrintWindow) (page col : Nat) : Byte :=
  if page = w.page ∧ w.page < 8 ∧ w.col ≤ col ∧ col < w.col + 54 then
    glyphByte station w.seq ((col - w.col) / 6) ((col - w.col) % 6)
  else w.raster.toList.getD (page * Config.columns + col) 0

/-- The column strobe j prints, with and without mirror (R103). -/
def strobeColumn (mirror : Bool) (j : Nat) : Nat := if mirror then 95 - j else j

/-- The eight bytes of a column of the image, top page first (R100, R103). -/
def columnBytes (station : Station) (w : PrintWindow) (col : Nat) : List Byte :=
  (List.range 8).map (fun page => imageByte station w page col)

/-- The effective energy: halved while HOT is active (R104). -/
def effectiveEnergy (energy : Nat) (hot : Bool) : Nat := if hot then energy / 2 else energy

/-- The burn time in microseconds (R104). -/
def burnTime (energy : Nat) (hot : Bool) : Nat := (effectiveEnergy energy hot + 1) * 8

/-- The quality of a window (R105). -/
def qualityOf (skipped : Nat) (hot : Bool) : Quality :=
  if 1 ≤ skipped then .part else if hot then .light else .full

/-- The window closes and the record takes its quality (R103, R105); without an open window nothing changes. -/
def endWindow (k : Ink) : Ink :=
  match k.window with
  | some _ =>
    { k with window := none,
             record := { k.record with quality := some (qualityOf (k.record.skipped.getD 0) (k.record.hotSeen.getD false)) } }
  | none => k

/-- The window opens on the number just taken: the image is fixed and the counts begin (R94, R103). -/
def openWindow (seq : Nat) (k : Ink) : Ink :=
  { k with
    state := .printing,
    window := some { raster := k.raster, page := k.fieldPage, col := k.fieldCol, seq := seq },
    record := { k.record with seq := some seq, strobed := some 0, skipped := some 0, hotSeen := some false } }

/-- The next strobe of the window is burned: it is the first, or the last burn has ended (R105). -/
def burns (k : Ink) (microseconds : Nat) : Bool := k.record.strobed = some 0 || k.burnLeft ≤ microseconds

/-- Strobe j, on pulse 40 + j since the leading edge, `microseconds` after the strobe before it (R103 to R105). After
strobe 95 the window closes and the item is SEATING (R95). -/
def strobe (microseconds : Nat) (hot : Bool) (k : Ink) : Ink :=
  let j := k.record.strobed.getD 0
  let burned := burns k microseconds
  let mark := Config.windowPulse + j
  let r := { k.record with
    sinceStart := inkMark k.record.sinceStart (mark - k.record.sinceLead.getD 0), sinceLead := some mark,
    strobed := some (j + 1),
    skipped := some (k.record.skipped.getD 0 + (if burned then 0 else 1)),
    hotSeen := some (k.record.hotSeen.getD false || hot) }
  let k := { k with record := r, burnLeft := if burned then burnTime k.energy hot else k.burnLeft - microseconds }
  if j + 1 = Config.columns then { endWindow k with state := .seating } else k

/-! ### Runs of the rollers -/

/-- Whether the item under the sensor has been decided already (R95). -/
def undecided (k : Ink) : Bool :=
  (k.state = .drawing || k.state = .printing || k.state = .seating) && k.record.outcome.isNone

/-- A rejected item is reversed (R97): rollers backward, pulses since roller start from 0. -/
def reverseItem (outcome : IntakeOutcome) (k : Ink) : Ink :=
  { k with state := .reversing, coveredInRun := k.sensor, sinceClear := 0,
           record := { k.record with outcome := some outcome, sinceStart := 0 } }

/-- The trailing edge decides the outcome by the length, the pulses from the position of the leading edge to that of the
trailing edge (R90, R95). Past 520 the 521st pulse has come first with the sensor covered, and decided TOO_LONG with no
length; a trailing edge told without it decides the same (log 40). -/
def decideLength (k : Ink) : Ink :=
  match k.record.sinceLead with
  | some m =>
    let l := m - Config.sensorLag
    let k := endWindow k
    if Config.maxLength < l then reverseItem .tooLong k
    else
      let k := { k with record := { k.record with length := some l } }
      if l < Config.minLength then reverseItem .tooShort k
      else { k with state := .seating, record := { k.record with outcome := some .accepted } }
  | none => k

/-- The clear run starts (R107). -/
def startClear (k : Ink) : Ink :=
  { k with state := .reversing, record := IntakeRec.fresh .reverseRun, clearPending := false, coveredInRun := k.sensor,
           sinceClear := 0, window := none }

/-- The sensor has stayed clear for 60 pulses of a run, before 1,200 were counted in it (R97, R99, R107; log 41). -/
def runClear (k : Ink) : Bool :=
  !k.sensor && decide (Config.clearPulses ≤ k.sinceClear) && decide (k.record.sinceStart < Config.reversePulses)

/-- The rollers eject the oldest envelope for a return (R99). -/
def startEject (k : Ink) : Ink :=
  { k with state := .ejecting, record := IntakeRec.fresh .eject, coveredInRun := k.sensor, sinceClear := 0 }

/-- INK becomes JAMMED (R98): rollers stopped, any window ended, outcome and cause recorded, the voided number reported for an
intake, the lane supervisor told. A clear run already asked for begins from the jam (R107; log 23). -/
def inkJam (cause : InkJam) (s : State) : State :=
  let k := endWindow s.ink
  let s := { s with ink := { k with state := .jammed, record := { k.record with outcome := some .jammed, jam := cause } } }
  let s := if s.ink.record.kind = .intake then trayItem .intakeJam (s.ink.record.seq.getD 0) s else s
  let s := faultReport s
  if s.ink.clearPending then { s with ink := startClear s.ink } else s

/-! ### The start of an intake (R91, R92) -/

/-- An intake starts; a sensor already covered is a stray item (R91). -/
def inkStart (s : State) : State :=
  let s := { s with ink.record := IntakeRec.fresh .intake }
  if s.ink.sensor then inkJam .stray s else { s with ink.state := .drawing }

/-- The drawer hands the item of a deposit to INK (R91). INK is idle or waits then; a busy path takes nothing. -/
def inkHand (s : State) : State :=
  if s.ink.state.busy then s
  else if s.pkt.pocket.length < Config.pocketPlaces then inkStart s
  else trayItem .pocketFull 0 { s with ink.state := .waiting }

/-- While WAITING, INK watches the tray, the pocket and the drawer (R92). -/
def settleInk (s : State) : State :=
  if s.ink.state = .waiting then
    if s.drw.tray = false then { s with ink.state := .idle }
    else if s.pkt.pocket.length < Config.pocketPlaces ∧ s.drw.state = .closed ∧ s.drw.purpose = .none then inkStart s
    else s
  else s

/-! ### The raster (R100) -/

/-- Bytes stored at successive positions, running on from page to page and from the last to the first (R100). -/
def writeRaster (at_ : Nat) : List Byte → Raster → Raster
  | [], r => r
  | b :: rest, r => writeRaster (at_ + 1) rest (r.set (at_ % 768) b (Nat.mod_lt _ (by decide)))

end Sys2Proof.Machine
end

