-- ==== Sys2Proof/Machine/Pkt.lean ====
section
/-!
DEFINITION. The pocket and chute: the list of envelopes, returns, the chute's claims, launches and releases, and the survey (R109
to R125).
-/

namespace Sys2Proof.Machine

open Sys2Proof

/-- The gate timer, 8 s (R117). -/
def gateTime : Nat := 8000
/-- The stale timer of a peer holder, 10 s (R117). -/
def staleTime : Nat := 10000
/-- The fairness wait, 200 ms (R121). -/
def fairnessTime : Nat := 200

/-! ### Events -/

/-- The envelope's position in the pocket: the number of records not LAUNCHED after it joined (R96). -/
def pocketPosition (pocket : List EnvRec) : Nat := (pocket.filter (fun e => e.state ≠ .launched)).length

/-- The payload of ENVELOPE_IN (R96, R179); the skip count only with quality PARTIAL. -/
def envelopeInPayload (e : EnvRec) (position : Nat) : List Byte :=
  be3 e.seq ++ be2 e.length ++ be1 (e.quality.code * 64 + e.recovered.toNat * 32 + position)
    ++ (if e.quality = .part then be1 e.skipped else [])

/-- A record joins at the newest end and ENVELOPE_IN is queued (R96, R109, R125). -/
def joinPocket (e : EnvRec) (s : State) : State :=
  let s := { s with pkt.pocket := s.pkt.pocket ++ [e] }
  queueEvent kindEnvelopeIn (envelopeInPayload e (pocketPosition s.pkt.pocket)) s

/-- The oldest record leaves and ENVELOPE_OUT is queued: sequence number, outcome, records left (R126). -/
def leavePocket (outcome : OutOutcome) (s : State) : State :=
  match s.pkt.pocket with
  | [] => s
  | e :: rest =>
    queueEvent kindEnvelopeOut (be3 e.seq ++ be1 outcome.code ++ be1 rest.length) { s with pkt.pocket := rest }

/-! ### Returns (R111 to R113) -/

/-- The oldest record is RETURNING. -/
def State.returning (s : State) : Bool :=
  match s.pkt.pocket with
  | e :: _ => e.state = .returning
  | [] => false

/-- The state of the oldest record set. -/
def setOldest (st : EnvState) : List EnvRec → List EnvRec
  | [] => []
  | e :: rest => { e with state := st } :: rest

/-- The drawer reports a return "returned" or "returned, left in tray"; without a RETURNING record nothing is done (R113). -/
def pktReturned (outcome : OutOutcome) (s : State) : State := if s.returning then leavePocket outcome s else s

/-- The number of covered places (R110). -/
def State.coveredPlaces (s : State) : Nat := (s.lines.places.toList.filter id).length

/-- The drawer reports a return "jammed": the sensors decide (R113). More covered places than records is open (log 12). -/
def pktJammed (s : State) : State :=
  if s.returning then
    let k := s.coveredPlaces
    let n := s.pkt.pocket.length
    if k < n ∨ (n < k ∧ Config.returnStays k n = false) then leavePocket .lost s
    else { s with pkt.pocket := setOldest .inPocket s.pkt.pocket }
  else s

/-! ### The survey (R125) -/

/-- The record of a recovered envelope (R125). -/
def recoveredRecord (seq : Nat) : EnvRec :=
  { seq := seq, length := 0, quality := .unknown, skipped := 0, recovered := true, state := .inPocket }

/-- One record added for a covered place that has none, with a fresh number (R94, R125). -/
def recoverOne (s : State) : State := joinPocket (recoveredRecord s.takenSeq) (consumeSeq s)

/-- The pocket survey: one record for each covered place above the records (R125). -/
def survey (s : State) : State := Nat.repeat recoverOne (s.coveredPlaces - s.pkt.pocket.length) s

/-! ### The chute (R115 to R121) -/

/-- The capture-bin view is known and below the capacity (R115, R122). -/
def State.binHasRoom (s : State) : Bool :=
  match s.pt.view with
  | some v => v < s.pkt.capacity
  | none => false

/-- The conditions of a launch: those of R115 apart from the no-holder condition and the fairness wait (R117). -/
def State.launchOk (s : State) : Bool :=
  (match s.pkt.pocket with
   | e :: _ => e.state = .captureWait
   | [] => false)
  && s.binHasRoom && !s.captureHold && s.lsv.lane ≠ .purging && !s.listening && s.ink.state ≠ .jammed

/-- PKT evaluates its claim (R115): in NONE it queues a claim once every condition holds; a claim still queued is withdrawn
when any but the no-holder condition stops holding. -/
def settlePkt (s : State) : State :=
  match s.pkt.chute with
  | .none =>
    if s.launchOk ∧ s.holderRecorded = false ∧ s.pkt.fairness = none then
      queueWall .claim { s with pkt.chute := .claiming }
    else s
  | .claiming =>
    if s.sending ≠ some .claim ∧ s.launchOk = false then dropWall .claim { s with pkt.chute := .none } else s
  | .launched | .releasing => s

/-- A release is queued and PKT is RELEASING (R117, R118). -/
def startRelease (captured : Bool) (s : State) : State :=
  queueWall (.chuteRelease captured) { s with pkt.chute := .releasing }

/-- A completed claim is taken in the peer table: the first claimer while none is recorded becomes holder, a peer with a
stale timer (R117). -/
def recordClaim (source : Station) (s : State) : State :=
  if s.holderRecorded then s
  else setPeer source (fun p => { p with
    holder := true, stale := if source = s.lsv.station then none else some staleTime }) s

/-- The completion of the own claim (R117): launch, release unused, or return to NONE. -/
def ownClaimDone (s : State) : State :=
  if s.pkt.chute = .claiming then
    if s.ownHolder then
      if s.launchOk then
        drive .launch { s with pkt.chute := .launched, pkt.gate := some gateTime,
                               pkt.pocket := setOldest .launched s.pkt.pocket }
      else startRelease false s
    else { s with pkt.chute := .none }
  else s

/-- The launched envelope has passed the gate or is lost (R118). -/
def endLaunch (captured : Bool) (s : State) : State :=
  let s := { s with pkt.gate := none }
  startRelease captured (leavePocket (if captured then .captured else .lost) s)

/-- A completed release is taken in the peer table and the view (R119, R122). -/
def recordRelease (source : Station) (captured : Bool) (s : State) : State :=
  let s := setPeer source (fun p => { p with holder := false, stale := none }) s
  if captured then { s with pt.view := s.pt.view.map (fun v => min Config.maxView (v + 1)) } else s

/-- The completion of the own release: PKT enters NONE and waits (R119, R121). -/
def ownReleaseDone (s : State) : State :=
  if s.pkt.chute = .releasing then { s with pkt.chute := .none, pkt.fairness := some fairnessTime } else s

end Sys2Proof.Machine
end

