-- ==== Sys2Proof/Machine/Alm.lean ====
section
/-!
DEFINITION. The alarm unit: latches, the wall alarm set and the beginning of lockdown, siren, relay, service window and reset (R143
to R156).
-/

namespace Sys2Proof.Machine

open Sys2Proof

/-- The siren timer, 180 s (R151). -/
def sirenTime : Nat := 180000
/-- Half a period of the siren at 2 Hz (R151). -/
def sirenHalf : Nat := 250

/-! ### The wall alarm set (R148, R149) -/

/-- The announced sets of the fifteen records, united; the own record's is the own latch set (R128, R148). -/
def uniteAnnounced (own : Station) (latch : AlarmSet) (peers : Vector Peer 15) : AlarmSet :=
  (List.range 15).foldl
    (fun acc n => acc.union (if n = own.toNat then latch else (peerAt peers n).announced)) latch

/-- The union of the own latch set and every record's announced set (R148). -/
def State.formedWall (s : State) : AlarmSet := uniteAnnounced s.lsv.station s.alm.latch s.pt.peers

/-- The drawer may be moved on the beginning of lockdown: not before the start-up purge (R88), and not on a MUTE lane, which stays
in STARTING (R181). R86 makes no such exception; that R88 and R181 limit it is the model's choice, DEDUCED, unsafe (log 37). -/
def State.drawerAnswersLockdown (s : State) : Bool := s.lsv.lane ≠ .starting && s.lsv.lane ≠ .awaitConfig

/-- ALM forms the wall alarm set; if lockdown begins, the dispense engine and the drawer act on the signal (R66, R86,
R149). In STARTING and AWAIT_CONFIG the drawer is not moved (R88, R181; log 37). The end of lockdown frees the blocks as they
settle. -/
def formWall (s : State) : State :=
  let before := s.lockdown
  let s := { s with alm.wall := s.formedWall }
  if before = false ∧ s.lockdown = true then
    let s := dspLockdown s
    if s.drawerAnswersLockdown then { s with drw := lockdownOrder s.drw } else s
  else s

/-! ### Siren, relay and latches (R145, R151, R152) -/

/-- The siren starts, or starts afresh, with an on period (R151). -/
def startSiren (s : State) : State :=
  { s with alm.siren := true, alm.sirenTimer := some sirenTime, alm.sirenOn := true, alm.sirenToggle := some sirenHalf }

/-- The siren and its timer stop (R151, R153). -/
def stopSiren (s : State) : State :=
  { s with alm.siren := false, alm.sirenTimer := none, alm.sirenOn := false, alm.sirenToggle := none }

/-- Kinds join the own latch set; what is new raises the alarm flag, forms the wall set again, and starts the siren or energises
the relay, in this order (R145, R147). -/
def latchKinds (kinds : AlarmSet) (s : State) : State :=
  let new := kinds.minus s.alm.latch
  if new = AlarmSet.empty then s
  else
    let s := { s with alm.latch := s.alm.latch.union kinds, alm.latchChanged := true, biu.alarmFlag := true }
    let s := formWall s
    let s := if new.sounds then startSiren s else s
    if new.duress then { s with alm.relay := true } else s

/-- An enabled loop is taken as having gone to a state (R144, R145). -/
def loopLatches (loop : Slot) (s : State) : State :=
  latchKinds (latchedBy loop (s.alm.loops.get loop).state s.alm.serviceWindow) s

/-- An enable taken from CONFIG_LANE; a loop newly enabled latches by the state it is in (R144). -/
def setEnable (loop : Slot) (enabled : Bool) (s : State) : State :=
  let was := (s.alm.loops.get loop).enabled
  let s := { s with alm.loops := s.alm.loops.modify loop (fun l => { l with enabled := enabled }) }
  if enabled ∧ was = false then loopLatches loop s else s

/-- The service window closes: an enabled CABINET_DOOR loop that is not NORMAL latches its kind (R146). A window that is not open
stays closed. -/
def closeServiceWindow (s : State) : State :=
  if s.alm.serviceWindow then
    let s := { s with alm.serviceWindow := false }
    let l := s.alm.loops.three
    if l.enabled ∧ l.state ≠ .normal then latchKinds (loopKind .three) s else s
  else s

/-! ### ALARM_ACK and ALARM_RESET (R153, R154) -/

/-- A loop that no longer holds its kind: NORMAL or disabled (R154). -/
def AlarmLoop.released (l : AlarmLoop) : Bool := l.state = .normal || !l.enabled

/-- The kinds ALARM_RESET leaves in the own latch set (R154). -/
def stillHeld (loops : Four AlarmLoop) (latch : AlarmSet) : AlarmSet :=
  let short := loops.toList.any (fun l => l.enabled && l.state = .short)
  { duress := latch.duress && !loops.one.released,
    tamper := latch.tamper && (!loops.two.released || short),
    cabinet := latch.cabinet && !loops.three.released,
    bin := latch.bin && !loops.four.released }

/-- ALARM_RESET's steps (R154): the alarm flag in every case; the wall set, the relay and the siren by what was cleared. -/
def alarmResetSteps (s : State) : State :=
  let before := s.alm.latch
  let after := stillHeld s.alm.loops before
  let s := { s with alm.latch := after, biu.alarmFlag := true, alm.latchChanged := s.alm.latchChanged || after ≠ before }
  let s := if after ≠ before then formWall s else s
  let s := if before.duress && !after.duress then { s with alm.relay := false } else s
  if after.sounds then s else stopSiren s

end Sys2Proof.Machine
end

