-- ==== Sys2Proof/Machine/Lsv.lean ====
section
/-!
DEFINITION. The lane supervisor with the reports that reach it: the purge and its stages, the ends of drawer and intake movements,
faults, service and restart (R77 to R88, R107, R112, R125, R180 to R186).
-/

namespace Sys2Proof.Machine

open Sys2Proof

/-- The listen-in timer, 600 ms (R135). -/
def listenTime : Nat := 600
/-- The service timer, 30 minutes (R184). -/
def serviceTime : Nat := 1800000

/-! ### Settling

After a step that may have changed their conditions, the waiting intake, the pending notes request, the pick order and the chute
claim are evaluated, in this fixed order (log 14). -/

/-- Each block takes what its conditions now allow (R26, R76, R92, R115). -/
def settle (s : State) : State := settlePkt (settleNtg (settleDrw (settleInk s)))

/-! ### The purge (R183) -/

/-- The purge fails: the lane enters FAULT as by a fault report; later reports change it no further (R183, R185). -/
def purgeFail (s : State) : State :=
  if s.lsv.lane = .purging then dspFault { s with lsv.lane := .fault } else s

/-- The purge is done once the survey has reported and DSP has reached IDLE on PURGE_DONE: LISTENING, with listen-in
(R135, R183). -/
def purgeCheck (s : State) : State :=
  if s.lsv.lane = .purging ∧ s.lsv.stage = .surveyed ∧ s.lsv.transportDone = true then
    { s with lsv.lane := .listening, pt.listenIn := some listenTime }
  else s

/-- INK reports INTAKE_CLEAR, on which the pocket is surveyed (R125, R183). A report that no present purge waits for
counts for nothing (R186). -/
def intakeClear (s : State) : State :=
  if s.lsv.lane = .purging ∧ s.lsv.stage = .intake then
    purgeCheck { survey s with lsv.stage := .surveyed }
  else s

/-- The clear run is asked for, in every state of the intake (R107). -/
def clearRequest (s : State) : State :=
  match s.ink.state with
  | .idle | .waiting =>
    if s.ink.sensor then { s with ink := startClear s.ink } else intakeClear { s with ink.state := .idle }
  | .jammed => { s with ink := startClear s.ink }
  | .drawing | .printing | .seating | .reversing | .ejecting => { s with ink.clearPending := true }

/-- A movement of the intake ends in IDLE; a clear run asked for meanwhile is acted on (R107). -/
def inkIdle (s : State) : State :=
  let s := { s with ink.state := .idle }
  if s.ink.clearPending then clearRequest { s with ink.clearPending := false } else s

/-- The drawer is CLOSED and the purge goes on with the intake (R183). -/
def drawerClosed (s : State) : State :=
  if s.lsv.lane = .purging ∧ s.lsv.stage = .drawer then clearRequest { s with lsv.stage := .intake } else s

/-- The transport's purge run ends with PURGE_DONE (R41, R69, R183). -/
def purgeDone (s : State) : State :=
  let s := { s with ntg.state := .idle, lsv.transportDone := true }
  let s := if s.dsp.state = .purging ∧ s.dsp.dispensing = false then { s with dsp.state := .idle } else s
  purgeCheck s

/-- The transport's purge run halts and reports PURGE_FAILED (R41, R69, R183). -/
def purgeHalt (cause : HaltCause) (s : State) : State :=
  let s := { s with ntg := ntgHalt cause s.ntg }
  let s := if s.dsp.state = .purging ∧ s.dsp.dispensing = false then { s with dsp.state := .fault } else s
  purgeFail s

/-- The transport halts: in a purge run PURGE_FAILED, else JAM (R38). -/
def transportHalt (cause : HaltCause) (s : State) : State :=
  if s.ntg.state = .purge then purgeHalt cause s else ntgJam cause s

/-- A hand-over of a purge run: its estimate goes into the reject bin; a cut addition is BIN_AT_CAPACITY, on which the
supervisor has the run stopped (R40, R69, R183). -/
def purgeHandOver (r : Routed) (s : State) : State :=
  let cut := s.dsp.rejectCap < s.dsp.rejectCount + r.estimate
  let s := { s with dsp := addReject r.estimate s.dsp, ntg.purged := s.ntg.purged + 1 }
  if cut then purgeHalt .purgeStopped s else s

/-- The lane enters PURGING and the purge begins (R183): a claim still queued is withdrawn (R115, R124), the stacker's
leftover into the reject bin, a purge request to the transport, a retract order to a drawer that is not CLOSED; a JAMMED
drawer fails it at once. DESIGN CHOICE, unsafe (log 50): before the switches have settled the drawer counts as CLOSED. -/
def enterPurging (s : State) : State :=
  let s := settlePkt { s with lsv.lane := .purging, lsv.stage := .drawer, lsv.transportDone := false }
  let s := dspPurgeBegins s
  let s := { s with ntg := ntgPurge s.ntg }
  match s.drw.state with
  | .jammed => purgeFail s
  | .closed => drawerClosed s
  | .extending | .opened | .retracting => { s with drw := retractOrder s.drw }

/-! ### The drawer's jams and arrivals (R77, R80, R82 to R85) -/

/-- The drawer becomes JAMMED (R82): drive and flap off, the event, the fault report, the user told unless the outcome was
reported, a pending request dropped. -/
def drawerJam (cause : DrwJam) (s : State) : State :=
  let purpose := s.drw.purpose
  let told := s.drw.reported
  let s := { s with drw := { s.drw with
    state := .jammed, mode := .standing, jam := cause, motion := none, take := none, deposit := none, trayEmpty := none,
    obstruct := none, sweep := none, stroke := none, load := none, retractNext := false } }
  let s := drawerEvent .jammed purpose cause s
  let s := faultReport s
  let s := if told then s else match purpose with
    | .notes => dspDrawerJammed s
    | .ret => pktJammed s
    | .none | .deposit => s
  { s with drw.purpose := .none, drw.pendingReq := none, drw.blocked := false, drw.returnSeq := none }

/-- The purpose has been dealt with (R80). -/
def clearPurpose (s : State) : State := { s with drw.purpose := .none, drw.returnSeq := none }

/-- What a home arrival does by purpose and tray (R80). DESIGN CHOICE, unsafe (log 38): the outcome reported mark is left clear
when "taken" or "returned" is told here; the spec sets it at the take alone (R83, R84). -/
def dealHome (s : State) : State :=
  let covered := s.drw.tray
  let seq := s.drw.returnSeq.getD 0
  match s.drw.purpose with
  | .notes =>
    if s.drw.reported then clearPurpose s
    else if covered then { s with drw.sweep := some strokeTime }
    else dspTaken (clearPurpose s)
  | .ret =>
    if s.drw.reported then clearPurpose s
    else if covered then trayItem .returnLeft seq (pktReturned .leftInTray (clearPurpose s))
    else pktReturned .returned (clearPurpose s)
  | .deposit => if covered then inkHand (clearPurpose s) else clearPurpose s
  | .none => if covered then trayItem .leftInTray 0 s else s

/-- The drawer is home (R80): CLOSED, its event, what its purpose calls for, and the purge that waits for it (R183). -/
def drawerArrives (s : State) : State :=
  let s := { s with drw := { s.drw with
    state := .closed, mode := .standing, motion := none, take := none, deposit := none, trayEmpty := none,
    obstruct := none, stroke := none, load := none, retractNext := false } }
  drawerClosed (dealHome (drawerEvent .closed s.drw.purpose .none s))

/-- The end of a load phase (R77): an empty tray jams the drawer; a held order brings it home; else travel begins. -/
def loadEnds (s : State) : State :=
  let s := { s with drw.stroke := none, drw.load := none }
  if s.drw.tray = false then drawerJam .load s
  else if s.drw.hold then drawerArrives { s with drw.obstructions := 0 }
  else { s with drw.phase := .travel, drw.motion := some motionLimit }

/-- The pocket passes "eject ended" on to the drawer, which decides on the tray level (R77, R99, R112). -/
def ejectEnded (s : State) : State :=
  if s.drw.state = .extending ∧ s.drw.phase = .load ∧ s.drw.load.isSome then loadEnds s else s

/-- The tray-ready signal of a return: INK ejects in IDLE, and answers at once otherwise (R99, R112). -/
def trayReady (s : State) : State :=
  if s.ink.state = .idle then { s with ink := startEject s.ink } else ejectEnded s

/-- The item counts as taken: the outcome is reported to the user of the purpose (R83, R84), once (R113; log 33); a drawer standing
OPEN takes it as a retract order. -/
def itemTaken (s : State) : State :=
  let told := s.drw.reported
  let s := { s with drw.reported := true, drw.trayEmpty := none }
  let s := if s.drw.state = .opened ∧ s.drw.mode = .standing then { s with drw := retractOrder s.drw } else s
  if told then s
  else match s.drw.purpose with
    | .notes => dspTaken s
    | .ret => pktReturned .returned s
    | .none | .deposit => s

/-- The extended switch closes on a drawer that travels out (R77, R83 to R85). -/
def drawerOpens (s : State) : State :=
  let d := { s.drw with state := DrwState.opened, mode := OpenMode.standing, motion := none, reachedOpen := true }
  let s := { s with drw := followTray s.drw.tray d }
  match s.drw.purpose with
  | .notes =>
    let r := s.drw.served.getD { bundle := 0, count := 0, final := false }
    queueEvent kindBundlePresented (be1 r.bundle ++ be1 r.count)
      { s with drw.take := some (s.drw.takeTimeout * 1000) }
  | .ret => drawerEvent .opened .ret .none { s with drw.take := some (s.drw.takeTimeout * 1000) }
  | .deposit => drawerEvent .opened .deposit .none { s with drw.deposit := some (s.drw.depositTimeout * 1000) }
  | .none => s

/-- The extended switch closes on a drawer that backs off (R78, R81). -/
def backedOff (s : State) : State :=
  let s := { s with drw.motion := none }
  if s.drw.retractNext then { s with drw := beginRetraction s.drw }
  else if s.drw.obstructions < 3 then { s with drw.mode := .waiting, drw.obstruct := some obstructWait }
  else drawerEvent .obstructed s.drw.purpose .none { s with drw := restartTimer { s.drw with mode := .standing } }

/-- The take timer runs out (R83, R84): a retract order with the tray occupied, or after three obstructions whatever it
holds (R81); else the item counts as taken. DEDUCED, unsafe (log 48): after three obstructions R81's order stands over a tray
that has been empty for less than 1 s too, with no take reported then; its tray-empty timer goes on. -/
def takeExpires (s : State) : State :=
  let s := { s with drw.take := none }
  if s.drw.tray = true ∨ s.drw.obstructions = 3 ∨ s.drw.purpose.presents = false then
    { s with drw := retractOrder s.drw }
  else itemTaken s

/-- The sweep ends (R83). -/
def sweepEnds (s : State) : State :=
  let s := { s with drw.sweep := none }
  if s.drw.tray then
    let s := drawerEvent .sweepFail .notes .none s
    faultReport (dspSweepFailed (clearPurpose s))
  else dspRetracted (clearPurpose s)

/-! ### Service and restart (R87, R184, R186) -/

/-- A service visit ends (R184, R185). -/
def endService (s : State) : State :=
  let s := closeServiceWindow { s with lsv.serviceTimer := none }
  { s with lsv.lane := if s.lsv.heldFault then .fault else .closed, lsv.heldFault := false }

/-- What RESTART does to the drawer (R87); its order sets the obstruction count to 0 in every state. DESIGN CHOICE, unsafe
(log 39): a JAMMED drawer found at home becomes CLOSED with no home arrival dealt with, so that neither DRAWER_EVENT nor
TRAY_ITEM is queued for it. DESIGN CHOICE, unsafe (log 51): the notes that a stopped sweep leaves in the tray of a CLOSED drawer
make no home arrival, so that no TRAY_ITEM is queued for them. -/
def drawerRestart (s : State) : State :=
  let d := s.drw
  let s := { s with drw := { d with
    pendingReq := none, blocked := false, take := none, deposit := none, sweep := none, obstructions := 0,
    purpose := if d.purpose = Purpose.ret then Purpose.ret else Purpose.none,
    trayEmpty := if d.purpose = Purpose.ret then d.trayEmpty else none } }
  if s.drw.state = .jammed then
    let s := { s with drw.jam := .none }
    if s.lines.home then
      if s.lines.ext then drawerJam .switches s else { s with drw.state := .closed }
    else { s with drw := beginRetraction s.drw }
  else { s with drw := retractOrder s.drw }

/-- The kind of RESTART (10.6). -/
def kindRestart : BitVec 7 := 35

/-- The replies of the RESTARTs held since their commands were acted on (R186). -/
def answerRestarts (s : State) : State :=
  { s.lsv.heldRestarts.foldl (fun s r => fillFrame .restart (replyFrame r.1 r.2 kindRestart .ok []) s) s
      with lsv.heldRestarts := [] }

/-- The restart's acts after the dispense has ended (R186, acts 2 to 5). -/
def restartTail (s : State) : State :=
  let s := drawerRestart { s with ntg := ntgStop s.ntg }
  let s := if s.ink.state = .waiting then { s with ink.state := .idle } else s
  let s := closeServiceWindow { s with lsv.serviceTimer := none, lsv.heldFault := false, pt.listenIn := none }
  let s := answerRestarts { s with cmd.owner := none }
  enterPurging s

/-- The first act of a restart, and the others unless the RESERVE in transmission holds them (R63, R186). -/
def restart (s : State) : State :=
  let s := dspRestart s
  if s.dsp.state = .reserving then s else restartTail s

/-- The own RESERVE has reached an outcome: DSP acts on it, and a restart held for it goes on (R63, R186). -/
def reserveOutcome (o : ReserveOutcome) (s : State) : State :=
  let s := dspReserved o s
  if s.lsv.heldRestarts = [] then s else restartTail s

/-- The own RESERVE has lost arbitration (R63, R186). -/
def reserveLost (s : State) : State :=
  let s := dspReserveLost s
  if s.lsv.heldRestarts = [] ∨ s.dsp.state = .reserving then s else restartTail s

end Sys2Proof.Machine
end

