-- ==== Sys2Proof/Machine/Pt.lean ====
section
/-!
DEFINITION. The peer table's reading of frames: STATUS, ALARM, RESERVE, RELEASE, the chute's frames, BIN_EMPTIED and FORGET (R119,
R120, R122, R127 to R139).
-/

namespace Sys2Proof.Machine

open Sys2Proof

/-- The bits of a byte a layout marks zero are clear. -/
def zeroBits (payload : List Byte) (i : Nat) (mask : Byte) : Bool := payload.getD i 0 &&& mask = 0

/-- An ALARM that can be read: one byte, its upper half zero (R130, R179). -/
def readableAlarm (payload : List Byte) : Bool := payload.length = 1 && zeroBits payload 0 0xF0

/-- A STATUS that can be read: twelve bytes, every zero bit clear (R130, R179). -/
def readableStatus (payload : List Byte) : Bool :=
  payload.length = 12 && zeroBits payload 1 0x07 && zeroBits payload 2 0x0F && zeroBits payload 3 0x01
    && zeroBits payload 11 0x0F

/-- The announced alarm set a STATUS carries, in bits 7 to 4 of byte 2 (R179). -/
def statusAlarms (payload : List Byte) : AlarmSet := AlarmSet.ofCode (field payload 2 1 / 16)

/-- The chute holder flag a STATUS carries, bit 7 of byte 3 (R179). -/
def statusHolds (payload : List Byte) : Bool := (payload.getD 3 0).getLsbD 7

/-- The fields of a lane's record that its STATUS sets: states, announced set, exposure (R130, R179). -/
def takeStatus (payload : List Byte) (p : Peer) : Peer :=
  { p with
    lane := some (field payload 0 1 / 16), dispense := some (field payload 0 1 % 16),
    drawer := some (field payload 1 1 / 32, field payload 1 1 / 8 % 4),
    announced := statusAlarms payload, exposure := field payload 4 3 }

/-- A STATUS bears on the sender's holder flag (R120). -/
def statusHolder (source : Station) (holds : Bool) (s : State) : State :=
  if holds then
    if s.holderRecorded then s else setPeer source (fun p => { p with holder := true, stale := some staleTime }) s
  else setPeer source (fun p => if p.holder then { p with holder := false, stale := none } else p) s

/-- A STATUS with a known capture count gives an unknown view its value (R122); a count above 1,000 is open (log 11). -/
def statusView (payload : List Byte) (s : State) : State :=
  if (payload.getD 3 0).getLsbD 4 ∧ s.pt.view = none then
    let c := field payload 7 2
    { s with pt.view := some (if c ≤ Config.maxView then c else min (Config.viewOutOfRange c) Config.maxView) }
  else s

/-- A STATUS in force from another station (R130). -/
def onStatus (source : Station) (payload : List Byte) (s : State) : State :=
  if readableStatus payload = false then s
  else if isLane source then
    formWall (statusView payload (statusHolder source (statusHolds payload) (setPeer source (takeStatus payload) s)))
  else if isConsole source then
    formWall (setPeer source (fun p => { p with announced := statusAlarms payload }) s)
  else s

/-- An ALARM in force from another station (R130, R148). -/
def onAlarm (source : Station) (payload : List Byte) (s : State) : State :=
  if readableAlarm payload ∧ (isLane source ∨ isConsole source) then
    formWall (setPeer source (fun p => { p with announced := AlarmSet.ofCode (field payload 0 1) }) s)
  else s

/-- A RESERVE in force from another lane (R130, R137). -/
def onReserve (source : Station) (payload : List Byte) (s : State) : State :=
  if isLane source ∧ payload.length = 3 then setPeer source (fun p => { p with exposure := field payload 0 3 }) s else s

/-- A RELEASE in force from another lane (R130, R139). -/
def onRelease (source : Station) (payload : List Byte) (s : State) : State :=
  if isLane source ∧ payload.length = 3 then setPeer source (fun p => { p with exposure := 0 }) s else s

/-- A CHUTE_CLAIM in force from another lane: the holder by R117, and the fairness wait ends (R121). -/
def onClaim (source : Station) (payload : List Byte) (s : State) : State :=
  if isLane source ∧ payload = [] then { recordClaim source s with pkt.fairness := none } else s

/-- The captured byte of a CHUTE_RELEASE that can be read (R119, R130). -/
def readRelease (payload : List Byte) : Option Bool :=
  match payload with
  | [b] => if b = 0 then some false else if b = 1 then some true else none
  | _ => none

/-- A CHUTE_RELEASE in force from another lane (R119). -/
def onChuteRelease (source : Station) (payload : List Byte) (s : State) : State :=
  match readRelease payload with
  | some captured => if isLane source then recordRelease source captured s else s
  | none => s

/-- A BIN_EMPTIED in force from a console (R122). -/
def onBinEmptied (source : Station) (payload : List Byte) (s : State) : State :=
  if isConsole source ∧ payload = [] then { s with pt.view := some 0 } else s

/-- A record forgotten (R131). -/
def forget (p : Peer) : Peer := { p with exposure := 0, announced := AlarmSet.empty, holder := false, stale := none }

/-- A FORGET in force from a console: only an ABSENT record other than the own is taken (R131). -/
def onForget (source : Station) (payload : List Byte) (s : State) : State :=
  let n := field payload 0 1
  if isConsole source ∧ payload.length = 1 ∧ n < 15 ∧ n ≠ s.lsv.station.toNat ∧ (peerAt s.pt.peers n).present = false then
    formWall { s with pt.peers := modifyPeer n forget s.pt.peers }
  else s

/-- The reservation check at the completion of the own RESERVE (R138): the own entry is set, the sum judged against the wall
limit, and a failed check sets the entry back to 0. -/
def reserveCheck (amount : Nat) (s : State) : State × Bool :=
  let s := setOwnExposure amount s
  if s.pt.wallLimit = 0 ∨ exposureSum s.pt.peers ≤ s.pt.wallLimit then (s, true) else (setOwnExposure 0 s, false)

/-- The STATUS period, 250 ms (R132). -/
def statusTime : Nat := 250

/-- A STATUS transmission has ended: the flag is raised again 250 ms later (R132). -/
def statusEnded (s : State) : State := { s with biu.statusFlag := false, pt.statusTimer := some statusTime }

end Sys2Proof.Machine
end

