-- ==== Sys2Proof/Machine/Biu.lean ====
section
/-!
DEFINITION. The bus interface: what it offers at an idle, the outcomes of an attempt, void confinement, QUIET and the stuck line
(R116, R119, R132 to R134, R147, R159 to R171), and the ACK of a command (R172).
-/

namespace Sys2Proof.Machine

open Sys2Proof

/-- The QUIET timer, 2,000 ms (R168). -/
def quietTime : Nat := 2000

/-! ### Frames for the line (R159, R160, R169) -/

/-- The twelve bytes of STATUS, read from the blocks (R133, R179). -/
def statusPayload (s : State) : List Byte :=
  be1 (nibbles s.lsv.lane.code s.dsp.state.code)
  ++ be1 (s.drw.state.code * 32 + s.drw.purpose.code * 8)
  ++ be1 (s.alm.latch.code * 16)
  ++ [statusFlags s.ownHolder s.cmd.eventGap s.listening s.pt.view.isSome s.drw.tray s.pt.quietEnded s.pt.stuckSeen]
  ++ be3 s.ownExposure
  ++ be2 (s.pt.view.getD 65535)
  ++ be1 (nibbles s.pkt.pocket.length (ownerCode s.cmd.owner))
  ++ be2 (cassetteStates ⟨s.cas.one.state, s.cas.two.state, s.cas.three.state, s.cas.four.state⟩)

/-- Class, kind, destination and payload of the frame that carries an item (R147, R159, R169; 10.6). -/
def itemFrame (s : State) : OfferItem → Nat × OutFrame
  | .alarm => (0, { kind := kindAlarm, dest := everyStation, payload := be1 s.alm.latch.code })
  | .wall (.reserve a) => (1, { kind := kindReserve, dest := everyStation, payload := be3 a })
  | .wall (.release a) => (1, { kind := kindRelease, dest := everyStation, payload := be3 a })
  | .wall .claim => (1, { kind := kindClaim, dest := everyStation, payload := [] })
  | .wall (.chuteRelease c) => (1, { kind := kindChuteRelease, dest := everyStation, payload := be1 c.toNat })
  | .fifo f => (3, f)
  | .status => (4, { kind := kindStatus, dest := everyStation, payload := statusPayload s })

/-- The attempt begins with the frame built for the item and its CRC (R159, R160, R169). -/
def startAttempt (item : OfferItem) (s : State) : State :=
  let f := itemFrame s item
  let crc := frameCrc (BitVec.ofNat 3 f.1) s.lsv.station f.2.dest (BitVec.ofNat 7 f.2.kind) f.2.payload
  let a : Attempt :=
    { item := item, cls := f.1, dest := f.2.dest, kind := f.2.kind, payload := f.2.payload, crc := crc }
  { s with biu.attempt := some a }

/-- The wall queue's frame to offer; a claim whose turn comes with a holder recorded is withdrawn, PKT is told and the choice
goes on (R116, R169). -/
def wallTurn : List WallItem → State → Option WallItem × State
  | [], s => (none, s)
  | .claim :: rest, s =>
    if s.holderRecorded then wallTurn rest (dropWall .claim { s with pkt.chute := .none }) else (some .claim, s)
  | item :: _, s => (some item, s)

/-- The station may start a frame (R164, R168, R171). -/
def State.maySend (s : State) : Bool :=
  s.joined && s.biu.quiet.isNone && !s.biu.stuck && s.biu.attempt.isNone

/-- The choice of what to offer at an idle (R169): ALARM, wall frame, oldest FIFO position if it is filled, STATUS. -/
def offer (s : State) : State :=
  if s.maySend then
    if s.biu.alarmFlag then startAttempt .alarm { s with alm.latchChanged := false }
    else
      let w := wallTurn s.biu.wallQueue s
      match w.1 with
      | some item => startAttempt (.wall item) w.2
      | none =>
        match w.2.biu.fifo with
        | .frame f :: _ => startAttempt (.fifo f) w.2
        | .reserved _ :: _ | [] => if w.2.biu.statusFlag then startAttempt .status w.2 else w.2
  else s

/-! ### Outcomes (R166, R170) -/

/-- The attempt has completed: its outcome, the void count back to 0, the own record's age restarted (R128, R166, R167). -/
def attemptCompleted (heard : Bool) (s : State) : State :=
  setPeer s.lsv.station (fun p => { p with age := 0 })
    { s with biu.attempt := none, biu.lastOutcome := some (if heard then .delivered else .unheard), biu.voidCount := 0,
             biu.broken := false }

/-- The frame at the head of the FIFO has had its outcome (R170). -/
def dropFifo (f : OutFrame) (s : State) : State := { s with biu.fifo := s.biu.fifo.erase (.frame f) }

/-- The own wall frame has ended VOID, and its block deals with it (R50, R116, R119, R139, R170). -/
def wallVoided (item : WallItem) (s : State) : State :=
  let s := dropWall item s
  match item with
  | .reserve _ => reserveOutcome .void s
  | .release _ => s
  | .claim => if s.pkt.chute = .claiming then { s with pkt.chute := .none } else s
  | .chuteRelease c => if s.pkt.chute = .releasing then queueWall (.chuteRelease c) s else s

/-- The own attempt ends VOID (R166, R170): the ALARM's flag stays, a FIFO frame is not offered again, a STATUS waits for its
period. -/
def voidAttempt (s : State) : State :=
  match s.biu.attempt with
  | none => s
  | some a =>
    let s := { s with biu.attempt := none, biu.lastOutcome := some .void }
    match a.item with
    | .alarm => s
    | .wall w => wallVoided w s
    | .fifo f => dropFifo f s
    | .status => statusEnded s

/-- The own attempt lost arbitration: the item stays where it is (R161, R170). -/
def loseAttempt (s : State) : State :=
  match s.biu.attempt with
  | none => s
  | some a =>
    let s := { s with biu.attempt := none, biu.lastOutcome := some .lost }
    match a.item with
    | .wall (.reserve _) => reserveLost s
    | .alarm | .wall (.release _) | .wall .claim | .wall (.chuteRelease _) | .fifo _ | .status => s

/-- The flags a completed STATUS carried set are cleared (R134). -/
def clearSticky (payload : List Byte) (s : State) : State :=
  let flags := payload.getD 3 0
  { s with pt.quietEnded := s.pt.quietEnded && !flags.getLsbD 2, pt.stuckSeen := s.pt.stuckSeen && !flags.getLsbD 1 }

/-- The own RESERVE completes: the check, then the dispense (R138, R50). -/
def ownReserveDone (amount : Nat) (s : State) : State :=
  let c := reserveCheck amount (dropWall (.reserve amount) s)
  reserveOutcome (if c.2 then .passed else .failed) c.1

/-- The own attempt completes, DELIVERED or UNHEARD, by its item (R128, R138, R139, R147, R170). -/
def completeAttempt (heard : Bool) (s : State) : State :=
  match s.biu.attempt with
  | none => s
  | some a =>
    let s := attemptCompleted heard s
    match a.item with
    | .alarm => { s with biu.alarmFlag := s.alm.latchChanged, alm.latchChanged := false }
    | .wall (.reserve amount) => ownReserveDone amount s
    | .wall (.release amount) => setOwnExposure 0 (dropWall (.release amount) s)
    | .wall .claim => ownClaimDone (recordClaim s.lsv.station (dropWall .claim s))
    | .wall (.chuteRelease captured) =>
      ownReleaseDone (recordRelease s.lsv.station captured (dropWall (.chuteRelease captured) s))
    | .fifo f => dropFifo f s
    | .status => clearSticky a.payload (statusEnded s)

/-! ### Void confinement (R167, R168) -/

/-- The void count reaches 16: QUIET; listen-in stops and a RESERVE still queued is withdrawn (R50, R135, R168). DESIGN CHOICE, unsafe
(log 43): while QUIET holds the timer stopped, listen-in is not in force, so that a claim may be queued (R115). -/
def enterQuiet (s : State) : State :=
  dspQuiet { s with biu.quiet := some quietTime, pt.listenIn := none }

/-- A frame this station voided, or an idle line's form error, is counted (R167). -/
def countVoid (s : State) : State :=
  let s := { s with biu.voidCount := s.biu.voidCount + 1 }
  if Config.voidLimit ≤ s.biu.voidCount then enterQuiet s else s

/-- QUIET ends (R134, R135, R168). -/
def leaveQuiet (s : State) : State :=
  { s with biu.quiet := none, biu.voidCount := 0, pt.quietEnded := true, pt.listenIn := some listenTime }

/-- This station sends a break in the frame on the line, for a form error or a bit error of its own (R162, R163): an own attempt
ends VOID, the reservations are dropped, and the frame is counted unless this station has broken it before (R167). -/
def breakFrame (s : State) : State :=
  let first := !s.biu.broken
  let s := drive .lineBreak { voidAttempt (dropReservations s) with biu.broken := true }
  if first then countVoid s else s

/-- A frame ends VOID (R166): an own attempt with it; a frame of another station may have had this station's ACK, its OBJECT or,
for a form error that shows in the frame, its break, and one it objected to or broke is counted (R160, R163, R165, R167). -/
def endVoided (frame : Option RxFrame) (s : State) : State :=
  match frame with
  | none => { voidAttempt (dropReservations s) with biu.broken := false }
  | some f =>
    if s.breaks f then { breakFrame s with biu.broken := false }
    else
      let objected := s.objects f
      let s := voidAttempt (dropReservations (ackSlot f s))
      let s := { s with biu.broken := false }
      if objected then countVoid (drive .object s) else s

/-- A frame of another station ends. One in which this station finds an error that it answers with a break or an OBJECT is in force
nowhere and ends VOID, whatever its row says of it (R163, R165, R166; log 35); else the row has its effect. -/
def unlessVoided (f : RxFrame) (taken : State → State) (s : State) : State :=
  if s.voids f then settle (endVoided (some f) s) else taken s

/-! ### The ACK of a command (R165, R172) -/

/-- A frame is a command to this lane (R172). -/
def isCommandHere (f : RxFrame) (s : State) : Bool := f.cls = 2 && f.dest = s.lsv.station

/-- The positions a command's ACK reserves (R172, R178). -/
def positionsFor (kind : BitVec 7) : List FifoPos :=
  if kind = kindQuery then [.reserved .record, .reserved .reply] else [.reserved .reply]

/-- CMD drives the ACK slot (R164, R172). -/
def acks (f : RxFrame) (s : State) : Bool :=
  isCommandHere f s && isConsole f.source && f.payload ≠ [] && cleanHere f && s.drivesSlots
    && s.biu.fifo.length + (positionsFor f.kind).length ≤ Config.fifoPositions

/-- A command's ACK slot comes: its positions are reserved with the ACK (R165, R172). Reservations of a frame before it that
came to nothing are free by then. -/
def commandAck (f : RxFrame) (s : State) : State :=
  let s := dropReservations s
  if acks f s then
    let s := drive .ack s
    { s with cmd.acked := some { source := f.source, kind := f.kind, payload := f.payload },
             biu.fifo := s.biu.fifo ++ positionsFor f.kind }
  else s

end Sys2Proof.Machine
end

