-- ==== Sys2Proof/Machine/Cmd.lean ====
section
/-!
DEFINITION. The command decoder's own answer: QUERY and the content of every LANE_RECORD section and part (R11, R43, R71, R88, R108,
R126, R142, R156, R171, R178, R179).
-/

namespace Sys2Proof.Machine

open Sys2Proof

/-- A bit that is sent set when its value is absent (R179). -/
def optBit : Option Bool → Bool
  | some b => b
  | none => true

/-- Two-valued fields that stand next to each other, in one byte (R179). -/
def bits (l : List Bool) : List Byte := [packBits l]

/-- Section 0 part 0: lane state, station, owner, event gap, and the bus interface's part (R171, R178). -/
def recordGeneral (s : State) : List Byte :=
  be1 s.lsv.lane.code ++ be1 s.lsv.station.toNat ++ be1 (ownerCode s.cmd.owner)
  ++ bits [s.cmd.eventGap, s.biu.slow, s.biu.quiet.isSome]
  ++ be2 (s.biu.quiet.getD 0) ++ be1 s.biu.voidCount ++ be1 s.biu.wallQueue.length
  ++ be1 (s.biu.fifo.filter (fun p => match p with | .frame _ => true | .reserved _ => false)).length
  ++ be1 (s.biu.fifo.filter (fun p => match p with | .frame _ => false | .reserved _ => true)).length
  ++ bits [s.biu.alarmFlag, s.biu.statusFlag]

/-- Section 0 part 1: note transport and gauge (R43). -/
def recordNtg (n : Ntg) : List Byte :=
  be1 n.state.code ++ be1 n.cause.code ++ be2 n.c0L ++ be2 n.c0R ++ bits [n.valid] ++ be1 n.records.length
  ++ opt1 (n.last.bind (fun m => m.slot.map Slot.number))
  ++ opt2 (n.last.bind (fun m => m.indices.map (fun t => t.1)))
  ++ opt2 (n.last.bind (fun m => m.indices.map (fun t => t.2)))
  ++ opt2 (n.last.map (fun m => m.length))
  ++ opt1 (n.last.bind (fun m => m.gauge.map GaugeClass.code))
  ++ opt1 (n.last.map (fun m => m.lengthClass.code))
  ++ bits [optBit (n.last.map (fun m => m.outcome = .reject))]
  ++ opt1 (n.last.bind (fun m => m.reason.map RejectReason.code))
  ++ opt1 (n.last.map (fun m => m.estimate))

/-- Section 0 part 2: the dispense engine's state and values (R71, R178). -/
def recordDspValues (d : Dsp) : List Byte :=
  be1 d.state.code ++ opt1 (d.pendingEnd.map EndReason.code) ++ be3 d.amount ++ be3 d.delivered ++ be3 d.paid
  ++ be3 d.inStacker ++ be1 d.reservation.code ++ bits [d.cancelMark, d.lockMark]

/-- The position of the ACTIVE entry in the pick list, counted from 1 (log 19). -/
def activePosition (l : List Entry) : Option Nat := (l.findIdx? (fun e => e.state = .active)).map (· + 1)

/-- Section 0 part 3: the dispense engine's counts (R71, R178). -/
def recordDspCounts (d : Dsp) : List Byte :=
  be1 d.stackerCount ++ be1 d.taken ++ be1 d.retracted ++ be2 d.rejected ++ be1 d.rejectEvents ++ be1 d.bundle
  ++ be1 d.pickList.length ++ opt1 (activePosition d.pickList) ++ be1 (remainingOf 1000 d.suspendTimer)

/-- The take or deposit timer, whichever runs (R88). -/
def Drw.userTimer (d : Drw) : Option Nat := if d.take.isSome then d.take else d.deposit

/-- Section 0 part 4: the drawer controller (R88). -/
def recordDrw (d : Drw) (lines : Lines) : List Byte :=
  be1 d.state.code ++ be1 d.purpose.code
  ++ bits [optBit (if d.state = .extending then some (d.phase = .travel) else none)]
  ++ opt1 (d.pendingReq.map (fun r => r.bundle)) ++ opt1 (d.pendingReq.map (fun r => r.count))
  ++ bits [optBit (d.pendingReq.map (fun r => r.final)), d.blocked, d.reported, d.hold]
  ++ opt3 (if d.purpose = .ret then d.returnSeq else none)
  ++ be1 d.obstructions ++ be1 d.jam.code ++ be1 (remainingOf 1000 d.userTimer)
  ++ bits [lines.home, lines.ext, d.tray, d.safe]

/-- Section 0 part 5: intake and imprinter (R108). -/
def recordInk (k : Ink) (hot : Bool) : List Byte :=
  be1 k.state.code ++ be1 k.record.jam.code ++ be3 k.seqCounter ++ be1 k.fieldPage ++ be1 k.fieldCol
  ++ bits [hot, k.sensor, k.mirror] ++ be1 k.energy
  ++ be1 k.record.kind.code ++ opt3 k.record.seq ++ opt2 k.record.length ++ opt1 (k.record.outcome.map IntakeOutcome.code)
  ++ opt1 k.record.strobed ++ opt1 k.record.skipped ++ bits [optBit k.record.hotSeen]
  ++ opt1 (k.record.quality.map Quality.code)

/-- One loop's bytes: comparator class, debounced state, enable (R156). -/
def recordLoop (comparator : LoopClass) (l : AlarmLoop) : List Byte :=
  be1 (LoopClass.code comparator) ++ be1 (LoopClass.code l.state) ++ bits [l.enabled]

/-- Section 0 part 6: the alarm unit (R156). -/
def recordAlm (s : State) : List Byte :=
  Slot.all.flatMap (fun k => recordLoop (s.lines.comparators.get k) (s.alm.loops.get k))
  ++ be1 s.alm.latch.code ++ be1 s.alm.wall.code
  ++ bits [s.silent, s.lockdown, s.captureHold, s.alm.siren]
  ++ be1 (remainingOf 1000 s.alm.sirenTimer)
  ++ bits [s.alm.relay, s.alm.serviceWindow, s.biu.alarmFlag]

/-- Section 0 part 7: the peer table's sum, limit, listen-in and sticky flags (R142). -/
def recordPt (t : Pt) : List Byte :=
  be4 (exposureSum t.peers) ++ be4 t.wallLimit ++ be2 (t.listenIn.getD 0) ++ bits [t.quietEnded, t.stuckSeen]

/-- A record as the table shows it; the own record's fields are the blocks' (R128). -/
def peerView (s : State) (n : Nat) : Peer :=
  let p := peerAt s.pt.peers n
  if n = s.lsv.station.toNat then
    { p with lane := some s.lsv.lane.code, dispense := some s.dsp.state.code,
             drawer := some (s.drw.state.code, s.drw.purpose.code), announced := s.alm.latch }
  else p

/-- The eight bytes of a peer record (R179). -/
def recordPeer (p : Peer) : List Byte :=
  be1 (p.present.toNat * 128 + p.holder.toNat * 64 + p.announced.code) ++ be2 p.age ++ be3 p.exposure
  ++ be1 (nibbles (p.lane.getD 15) (p.dispense.getD 15))
  ++ be1 (match p.drawer with | some d => d.1 * 32 + d.2 * 8 | none => 7 * 32)

/-- Sections 1 to 4: a cassette record (R11). -/
def recordCassette (k : Slot) (c : Cassette) : List Byte :=
  be1 k.number ++ be1 c.state.code ++ bits [c.present] ++ be2 c.denomination ++ be2 c.nominal ++ be2 c.ref8L
  ++ be2 c.ref8R ++ be2 c.count ++ be2 c.loaded ++ be2 c.lowMark ++ be1 c.mispicks

/-- Section 5: the bins (R71, R122). -/
def recordBins (s : State) : List Byte :=
  be2 s.dsp.rejectCount ++ be2 s.dsp.rejectCap ++ be2 s.dsp.retractCount ++ be2 s.dsp.retractCap ++ bits [s.dsp.overflow]
  ++ opt2 s.pt.view ++ be2 s.pkt.capacity

/-- The number of the record RETURNING, 0 if none (R126, R179). -/
def returningSeq (pocket : List EnvRec) : Nat :=
  match pocket.find? (fun e => e.state = .returning) with
  | some e => e.seq
  | none => 0

/-- Section 6 part 0: the pocket's summary (R126, R179). -/
def recordPocket (s : State) : List Byte :=
  be1 s.pkt.pocket.length ++ be1 s.coveredPlaces ++ be1 s.pkt.chute.code
  ++ be2 (if s.pkt.chute = .launched then remainingOf 100 s.pkt.gate else 0)
  ++ be1 s.pkt.fairness.isSome.toNat ++ be3 (returningSeq s.pkt.pocket)

/-- The seven bytes of a pocket record (R179). -/
def recordEnvelope (e : EnvRec) : List Byte :=
  be3 e.seq ++ be2 e.length ++ be1 (e.quality.code * 64 + e.state.code * 16 + e.recovered.toNat * 8)
  ++ be1 (if e.quality = .part then e.skipped else 0)

/-- The number of parts of a section, none for a section above 6 (R178). -/
def sectionParts : Nat → Option Nat
  | 0 => some 16
  | 1 | 2 | 3 | 4 | 5 => some 1
  | 6 => some 3
  | _ => none

/-- The content of a section and part (R178). -/
def sectionContent (section_ part : Nat) (s : State) : List Byte :=
  match section_, part with
  | 0, 0 => recordGeneral s
  | 0, 1 => recordNtg s.ntg
  | 0, 2 => recordDspValues s.dsp
  | 0, 3 => recordDspCounts s.dsp
  | 0, 4 => recordDrw s.drw s.lines
  | 0, 5 => recordInk s.ink s.lines.hot
  | 0, 6 => recordAlm s
  | 0, 7 => recordPt s.pt
  | 0, 15 => recordPeer (peerView s 14)
  | 0, p => recordPeer (peerView s (2 * (p - 8))) ++ recordPeer (peerView s (2 * (p - 8) + 1))
  | 1, _ => recordCassette .one s.cas.one
  | 2, _ => recordCassette .two s.cas.two
  | 3, _ => recordCassette .three s.cas.three
  | 4, _ => recordCassette .four s.cas.four
  | 5, _ => recordBins s
  | 6, 0 => recordPocket s
  | 6, 1 => (s.pkt.pocket.take 2).flatMap recordEnvelope
  | _, _ => ((s.pkt.pocket.drop 2).take 2).flatMap recordEnvelope

/-- QUERY (R178): a valid section and part fill the LANE_RECORD's position and clear the event-gap flag; otherwise that
position is freed. DESIGN CHOICE, unsafe (log 52): the LANE_RECORD is composed before either position is filled, so that both
count in it as reservations. -/
def serveQuery (source : Station) (payload : List Byte) (s : State) : State × Reply :=
  let sec := field payload 1 1
  let part := field payload 2 1
  let freed := { s with biu.fifo := s.biu.fifo.erase (.reserved .record) }
  match sectionParts sec with
  | none => (freed, plain .badParam)
  | some n =>
    if part < n then
      let record := payload.take 1 ++ be1 sec ++ be1 part ++ be1 n ++ sectionContent sec part s
      (fillFrame .record { kind := kindLaneRecord, dest := source, payload := record } { s with cmd.eventGap := false },
       some (.ok, be1 sec ++ be1 part))
    else (freed, plain .badParam)

end Sys2Proof.Machine
end

