-- ==== Sys2Proof/Machine/BusSteps.lean ====
section
/-!
DEFINITION. The meanings of reset, joining and the bus interface's steps, one for each row of the table.
-/

namespace Sys2Proof.Machine

open Sys2Proof

/-- What follows, if a condition holds; a step whose premise fails has no effect (log 1). -/
def when (c : Bool) (f : State → State) (s : State) : State := if c then f s else s

/-- POWER_RESET (R181): every block in its reset state, the straps read; the queue of waiting commands is the sender's. -/
def execPowerReset (station : Station) (slow : Bool) (s : State) : Host.Outcome State Fault Refusal :=
  act (fun s => { State.powerOn station slow with pending := s.pending }) s

/-- JOIN_BUS (R181, R128, R132): a lane strapped 1 to 12 enters AWAIT_CONFIG; any other strap keeps it MUTE in STARTING. -/
def execJoinBus (s : State) : Host.Outcome State Fault Refusal :=
  act (fun s => when (s.lsv.lane = .starting && isLane s.lsv.station)
    (fun s => setPeer s.lsv.station (fun p => { p with present := true })
      { s with lsv.lane := .awaitConfig, biu.statusFlag := true }) s) s

/-- DRAWER_SWITCHES_SETTLED (R88): after a power reset the drawer takes its state from its switches, once. DESIGN CHOICE, unsafe
(log 50): in a purge that has begun before, an OPEN drawer gets no retract order and a JAMMED one fails no purge. -/
def execDrawerSwitchesSettled (home ext : Bool) (s : State) : Host.Outcome State Fault Refusal :=
  act (fun s => when (!s.drw.settled) (fun s =>
    let s := { s with lines.home := home, lines.ext := ext, drw.settled := true }
    if home then
      if ext then { s with drw.state := .jammed, drw.jam := .switches } else { s with drw.state := .closed }
    else { s with drw.state := .opened, drw.mode := .standing }) s) s

/-- OFFER_AT_IDLE (R169): the line is idle, so the frame before has ended. -/
def execOfferAtIdle (s : State) : Host.Outcome State Fault Refusal :=
  act (fun s => offer { s with biu.broken := false }) s

/-- ATTEMPT_LOST (R161, R170); a claim is again queued, and its conditions are evaluated (R115). -/
def execAttemptLost (s : State) : Host.Outcome State Fault Refusal :=
  act (fun s => when s.biu.attempt.isSome (fun s => settle (loseAttempt s)) s) s

/-- COMMAND_ACK (R172); a form error that the header shows is answered with a break before the slot comes (R163). -/
def execCommandAck (frame : RxFrame) (s : State) : Host.Outcome State Fault Refusal :=
  act (fun s => if s.breaks frame then settle (breakFrame s) else commandAck frame s) s

/-- FORM_ERROR_BREAK (R162 to R164, R167): a station that is neither QUIET nor in STARTING nor at a stuck line sends a break,
which voids a frame in progress and is counted. A bit error is one of its own frame. -/
def execFormErrorBreak (error : LineError) (s : State) : Host.Outcome State Fault Refusal :=
  act (fun s => when (s.joined && s.biu.quiet.isNone && !s.biu.stuck && (error ≠ .bitError || s.biu.attempt.isSome))
    (fun s =>
      settle (if error = .onIdleLine then countVoid (drive .lineBreak { s with biu.broken := false }) else breakFrame s)) s) s

/-- FRAME_VOIDED (R160, R163, R165 to R167, R170, R172): a frame ends VOID; this station breaks a frame with a form error, objects to
one whose CRC does not match, and counts either. -/
def execFrameVoided (frame : Option RxFrame) (s : State) : Host.Outcome State Fault Refusal :=
  act (fun s => when s.joined (fun s => settle (endVoided frame s)) s) s

/-- QUIET_TIMEOUT (R168, R134, R135). -/
def execQuietTimeout (s : State) : Host.Outcome State Fault Refusal :=
  act (fun s => when s.biu.quiet.isSome (fun s => settle (leaveQuiet s)) s) s

/-- BUS_STUCK (R164): an own attempt ends VOID, the flag is set once for the stuck period, nothing is offered. -/
def execBusStuck (s : State) : Host.Outcome State Fault Refusal :=
  act (fun s => when (!s.biu.stuck) (fun s =>
    settle (voidAttempt { dropReservations s with biu.stuck := true, biu.broken := false, pt.stuckSeen := true })) s) s

/-- BUS_STUCK_RECOVERED (R164): offering resumes under the idle rule. -/
def execBusStuckRecovered (s : State) : Host.Outcome State Fault Refusal := act (fun s => { s with biu.stuck := false }) s

/-- OWN_ATTEMPT_COMPLETED (R128, R139, R166, R170): any frame of the station's own. -/
def execOwnAttemptCompleted (heard : Bool) (s : State) : Host.Outcome State Fault Refusal :=
  act (fun s => when s.biu.attempt.isSome (fun s => settle (completeAttempt heard s)) s) s

/-- The item offered by the attempt in transmission. -/
def State.offered (s : State) : Option OfferItem := s.biu.attempt.map (fun a => a.item)

/-- OWN_ALARM_COMPLETED (R147). -/
def execOwnAlarmCompleted (heard : Bool) (s : State) : Host.Outcome State Fault Refusal :=
  act (fun s => when (s.offered = some .alarm) (completeAttempt heard) s) s

/-- OWN_STATUS_COMPLETED (R132, R134). -/
def execOwnStatusCompleted (heard : Bool) (s : State) : Host.Outcome State Fault Refusal :=
  act (fun s => when (s.offered = some .status) (completeAttempt heard) s) s

/-- OWN_RESERVE_COMPLETED (R138, R50). -/
def execOwnReserveCompleted (heard : Bool) (s : State) : Host.Outcome State Fault Refusal :=
  act (fun s => when s.reserveSending (fun s => settle (completeAttempt heard s)) s) s

/-- STATUS_PERIOD (R132): the period does not run while QUIET or while the line is stuck. -/
def execStatusPeriod (s : State) : Host.Outcome State Fault Refusal :=
  act (fun s => when (s.pt.statusTimer.isSome && s.biu.quiet.isNone && !s.biu.stuck)
    (fun s => { s with pt.statusTimer := none, biu.statusFlag := true }) s) s

end Sys2Proof.Machine
end

