-- ==== Sys2Proof/Machine/PeerSteps.lean ====
section
/-!
DEFINITION. The meanings of the frames in force from other stations and of the peer table's timers, one for each row of the table. A
frame that this station voids itself is in force nowhere (`unlessVoided`).
-/

namespace Sys2Proof.Machine

open Sys2Proof

/-- STATUS_RECEIVED (R120, R122, R129, R130). -/
def execStatusReceived (frame : RxFrame) (s : State) : Host.Outcome State Fault Refusal :=
  act (fun s => when s.joined (unlessVoided frame (fun s =>
    settle (receive frame (carrying 4 kindStatus frame (onStatus frame.source frame.payload)) s))) s) s

/-- ALARM_RECEIVED (R129, R130, R148). -/
def execAlarmReceived (frame : RxFrame) (s : State) : Host.Outcome State Fault Refusal :=
  act (fun s => when s.joined (unlessVoided frame (fun s =>
    settle (receive frame (carrying 0 kindAlarm frame (onAlarm frame.source frame.payload)) s))) s) s

/-- RESERVE_RECEIVED (R129, R137). -/
def execReserveReceived (frame : RxFrame) (s : State) : Host.Outcome State Fault Refusal :=
  act (fun s => when s.joined (unlessVoided frame
    (receive frame (carrying 1 kindReserve frame (onReserve frame.source frame.payload)))) s) s

/-- RELEASE_RECEIVED (R129, R139). -/
def execReleaseReceived (frame : RxFrame) (s : State) : Host.Outcome State Fault Refusal :=
  act (fun s => when s.joined (unlessVoided frame
    (receive frame (carrying 1 kindRelease frame (onRelease frame.source frame.payload)))) s) s

/-- CHUTE_CLAIM_RECEIVED (R117, R121, R166): a lane's claim completes, the own one, heard or unheard, while it is the attempt
in transmission. -/
def execChuteClaimReceived (frame : RxFrame) (heard : Bool) (s : State) : Host.Outcome State Fault Refusal :=
  act (fun s => when s.joined (fun s =>
    if frame.source = s.lsv.station ∧ s.sending = some .claim then settle (completeAttempt heard s)
    else unlessVoided frame (fun s =>
      settle (receive frame (carrying 1 kindClaim frame (onClaim frame.source frame.payload)) s)) s) s) s

/-- CHUTE_RELEASE_RECEIVED (R119, R121, R122, R166): a lane's release completes, the own one, heard or unheard, while it is
the attempt in transmission. -/
def execChuteReleaseReceived (frame : RxFrame) (heard : Bool) (s : State) : Host.Outcome State Fault Refusal :=
  act (fun s => when s.joined (fun s =>
    if frame.source = s.lsv.station ∧ s.sending = (readRelease frame.payload).map WallItem.chuteRelease
        ∧ s.sending ≠ none then settle (completeAttempt heard s)
    else unlessVoided frame (fun s =>
      settle (receive frame (carrying 1 kindChuteRelease frame (onChuteRelease frame.source frame.payload)) s)) s) s) s

/-- BIN_EMPTIED_RECEIVED (R122). -/
def execBinEmptiedReceived (frame : RxFrame) (s : State) : Host.Outcome State Fault Refusal :=
  act (fun s => when s.joined (unlessVoided frame (fun s =>
    settle (receive frame (carrying 1 kindBinEmptied frame (onBinEmptied frame.source frame.payload)) s))) s) s

/-- FORGET_RECEIVED (R131). -/
def execForgetReceived (frame : RxFrame) (s : State) : Host.Outcome State Fault Refusal :=
  act (fun s => when s.joined (unlessVoided frame (fun s =>
    settle (receive frame (carrying 1 kindForget frame (onForget frame.source frame.payload)) s))) s) s

/-- PRESENCE_ONLY_FRAME (R129, R130). -/
def execPresenceOnlyFrame (frame : RxFrame) (s : State) : Host.Outcome State Fault Refusal :=
  act (fun s => when s.joined (unlessVoided frame (receive frame id)) s) s

/-- PEER_ABSENT (R129): the age of a record other than the own reaches 1,000 ms. -/
def execPeerAbsent (station : Station) (s : State) : Host.Outcome State Fault Refusal :=
  act (fun s => when (station ≠ s.lsv.station && (peerAt s.pt.peers station.toNat).present)
    (setPeer station (fun p => { p with present := false, age := max 1000 p.age })) s) s

/-- STALE_TIMEOUT (R120): the stale timer of a peer holder runs out. -/
def execStaleTimeout (station : Station) (s : State) : Host.Outcome State Fault Refusal :=
  act (fun s => when (peerAt s.pt.peers station.toNat).stale.isSome
    (fun s => settle (setPeer station (fun p => { p with holder := false, stale := none }) s)) s) s

/-- LISTEN_IN_END (R135, R183): the lane in LISTENING enters CLOSED; the pocket evaluates its claim. -/
def execListenInEnd (s : State) : Host.Outcome State Fault Refusal :=
  act (fun s => when s.listening (fun s =>
    let s := { s with pt.listenIn := none }
    settle (if s.lsv.lane = .listening then { s with lsv.lane := .closed } else s)) s) s

end Sys2Proof.Machine
end

