-- ==== Sys2Proof/Machine/CommandSteps.lean ====
section
/-!
DEFINITION. The meanings of the console commands, one for each row of the table. Each is `onCommand` (R172, R173) with what its block
does: the checks in the order of its table and, when all pass, the change of state and the answer.
-/

namespace Sys2Proof.Machine

open Sys2Proof

/-- The sender is not the owner console of a lane that has one (R174). -/
def ownerFails (source : Station) (s : State) : Bool := s.cmd.owner.isSome && s.cmd.owner ≠ some source

/-- LANE_OPEN (R184): in CLOSED from any console; else the owner check comes first (R174). -/
def serveLaneOpen (source : Station) (s : State) : State × Reply :=
  if s.lsv.lane = .closed then ({ s with lsv.lane := .opened, cmd.owner := some source }, plain .ok)
  else if ownerFails source s then refuse .notOwner s
  else refuse .badState s

/-- LANE_OPEN, kind 16. -/
def execLaneOpen (source : Station) (payload : List Byte) (s : State) : Host.Outcome State Fault Refusal :=
  act (onCommand 16 source payload (fun _ => serveLaneOpen source)) s

/-- LANE_CLOSE (R184). -/
def serveLaneClose (source : Station) (s : State) : State × Reply :=
  checked (openChecks source s ++ [(s.dsp.state ≠ .idle || s.drw.purpose ≠ .none, .busy)])
    (fun s => ({ s with lsv.lane := .closed, cmd.owner := none }, plain .ok)) s

/-- LANE_CLOSE, kind 17. -/
def execLaneClose (source : Station) (payload : List Byte) (s : State) : Host.Outcome State Fault Refusal :=
  act (onCommand 17 source payload (fun _ => serveLaneClose source)) s

/-- DISPENSE, kind 18: the amount in four bytes after the tag (R12, R46, R47). -/
def execDispense (source : Station) (payload : List Byte) (s : State) : Host.Outcome State Fault Refusal :=
  act (onCommand 18 source payload (fun p s => checked (dispenseChecks source s) (dspDispense (field p 1 4)) s)) s

/-- The four counts of a DISPENSE_MIX, one byte each after the tag (1.8). -/
def mixCounts (p : List Byte) : Four Nat := ⟨field p 1 1, field p 2 1, field p 3 1, field p 4 1⟩

/-- DISPENSE_MIX, kind 19 (R17, R46, R47). -/
def execDispenseMix (source : Station) (payload : List Byte) (s : State) : Host.Outcome State Fault Refusal :=
  act (onCommand 19 source payload (fun p s => checked (dispenseChecks source s) (dspDispenseMix (mixCounts p)) s)) s

/-- The checks of CONTINUE: R46 orders 1 to 3, then SUSPENDED (R60). -/
def continueChecks (source : Station) (s : State) : List (Bool × Code) :=
  openChecks source s ++ [(s.silent, .notReady), (s.dsp.state ≠ .suspended, .badState)]

/-- A change of state after which the blocks settle. -/
def settled (r : State × Reply) : State × Reply := (settle r.1, r.2)

/-- CONTINUE, kind 20 (R60). -/
def execContinue (source : Station) (payload : List Byte) (s : State) : Host.Outcome State Fault Refusal :=
  act (onCommand 20 source payload (fun _ s => checked (continueChecks source s) (fun s => settled (dspContinue s)) s)) s

/-- CANCEL, kind 21 (R62). -/
def execCancel (source : Station) (payload : List Byte) (s : State) : Host.Outcome State Fault Refusal :=
  act (onCommand 21 source payload (fun _ s => checked (openChecks source s) (fun s => settled (dspCancel s)) s)) s

/-- The checks of DRAWER_OPEN (R75). -/
def drawerOpenChecks (source : Station) (s : State) : List (Bool × Code) :=
  openChecks source s ++ [(s.silent, .notReady), (s.lockdown, .lockdown),
    (!s.drawerFree || s.drw.pendingReq.isSome, .drawerBusy)]

/-- DRAWER_OPEN, kind 22 (R75). -/
def execDrawerOpen (source : Station) (payload : List Byte) (s : State) : Host.Outcome State Fault Refusal :=
  act (onCommand 22 source payload (fun _ s => checked (drawerOpenChecks source s)
    (fun s => (takeDeposit s, plain .ok)) s)) s

/-- The checks of DRAWER_CLOSE (R79). -/
def drawerCloseChecks (source : Station) (s : State) : List (Bool × Code) :=
  openChecks source s ++ [(s.drw.state = .closed || s.drw.state = .jammed, .badState)]

/-- DRAWER_CLOSE, kind 23 (R79): a retract order. -/
def execDrawerClose (source : Station) (payload : List Byte) (s : State) : Host.Outcome State Fault Refusal :=
  act (onCommand 23 source payload (fun _ s => checked (drawerCloseChecks source s)
    (fun s => ({ s with drw := retractOrder s.drw }, plain .ok)) s)) s

/-- The number is that of a record in the pocket. -/
def holdsSeq (pocket : List EnvRec) (seq : Nat) : Bool := pocket.any (fun e => e.seq = seq)

/-- The number is that of the oldest record. -/
def isOldest (pocket : List EnvRec) (seq : Nat) : Bool :=
  match pocket with
  | e :: _ => e.seq = seq
  | [] => false

/-- The oldest record is IN_POCKET. -/
def oldestInPocket (pocket : List EnvRec) : Bool :=
  match pocket with
  | e :: _ => e.state = .inPocket
  | [] => false

/-- The checks of ENVELOPE_CAPTURE in the order of R114's table. -/
def captureChecks (source : Station) (seq : Nat) (s : State) : List (Bool × Code) :=
  [(s.lsv.lane = .service, .service), (s.lsv.lane ≠ .opened && s.lsv.lane ≠ .fault, .laneClosed),
   (ownerFails source s, .notOwner),
   (s.pkt.pocket.isEmpty, .pocketEmpty),
   (seq ≠ 0 && !holdsSeq s.pkt.pocket seq, .noSuchEnvelope),
   (seq ≠ 0 && !isOldest s.pkt.pocket seq, .notOldest),
   (if seq ≠ 0 then !oldestInPocket s.pkt.pocket
    else s.pkt.pocket.any (fun e => e.state = .returning) || s.pkt.pocket.all (fun e => e.state ≠ .inPocket), .busy),
   (s.ink.state = .jammed, .busy),
   (s.pt.view = none, .binUnknown),
   (!s.binHasRoom, .captureBinFull)]

/-- An IN_POCKET record is marked for capture (R114). -/
def markCapture (e : EnvRec) : EnvRec := if e.state = .inPocket then { e with state := .captureWait } else e

/-- The marking of an ENVELOPE_CAPTURE that passes: the oldest, or every IN_POCKET record (R114). The detail carries how many
were marked, in one byte, and the number of the newest of them, in three (DEDUCED, unsafe: log 44). -/
def capture (seq : Nat) (s : State) : State × Reply :=
  let marked := if seq = 0 then s.pkt.pocket.filter (fun e => e.state = .inPocket) else s.pkt.pocket.take 1
  let pocket := if seq = 0 then s.pkt.pocket.map markCapture else setOldest .captureWait s.pkt.pocket
  let newest := match marked.getLast? with
    | some e => e.seq
    | none => 0
  ({ s with pkt.pocket := pocket }, some (.ok, be1 marked.length ++ be3 newest))

/-- ENVELOPE_CAPTURE, kind 24 (R114, R115). -/
def execEnvelopeCapture (source : Station) (payload : List Byte) (s : State) : Host.Outcome State Fault Refusal :=
  act (onCommand 24 source payload (fun p s => checked (captureChecks source (field p 1 3) s)
    (fun s => settled (capture (field p 1 3) s)) s)) s

/-- The checks of ENVELOPE_RETURN in the order of R111's table. -/
def returnChecks (source : Station) (seq : Nat) (s : State) : List (Bool × Code) :=
  openChecks source s ++
  [(s.pkt.pocket.isEmpty, .pocketEmpty), (!holdsSeq s.pkt.pocket seq, .noSuchEnvelope),
   (!isOldest s.pkt.pocket seq, .notOldest), (!oldestInPocket s.pkt.pocket, .busy), (s.lockdown, .lockdown),
   (!s.drawerFree || s.drw.pendingReq.isSome || s.drw.tray, .drawerBusy)]

/-- A return taken in one step: the record RETURNING, the drawer's load phase, the tray ready, the eject (R99, R112). The number in the
detail takes three bytes (DEDUCED, unsafe: log 44). -/
def takeEnvelopeReturn (seq : Nat) (s : State) : State × Reply :=
  let s := { s with pkt.pocket := setOldest .returning s.pkt.pocket }
  (trayReady (takeReturn seq s), some (.ok, be3 seq))

/-- ENVELOPE_RETURN, kind 25 (R111, R112). -/
def execEnvelopeReturn (source : Station) (payload : List Byte) (s : State) : Host.Outcome State Fault Refusal :=
  act (onCommand 25 source payload (fun p s => checked (returnChecks source (field p 1 3) s)
    (takeEnvelopeReturn (field p 1 3)) s)) s

/-- The checks of IMPRINT_WRITE (R100): `page`, `col` and the number of data bytes. -/
def writeChecks (source : Station) (page col n : Nat) (s : State) : List (Bool × Code) :=
  openChecks source s ++
  [(decide (7 < page) || decide (95 < col) || n = 0 || decide (20 < n), .badParam),
   (s.ink.state = .printing, .imprintBusy)]

/-- IMPRINT_WRITE's bytes stored, with the page and column after the last (R100). -/
def writeImprint (page col : Nat) (data : List Byte) (s : State) : State × Reply :=
  let start := page * Config.columns + col
  let next := (start + data.length) % 768
  ({ s with ink.raster := writeRaster start data s.ink.raster },
   some (.ok, be1 (next / Config.columns) ++ be1 (next % Config.columns)))

/-- IMPRINT_WRITE, kind 26 (R100). -/
def execImprintWrite (source : Station) (payload : List Byte) (s : State) : Host.Outcome State Fault Refusal :=
  act (onCommand 26 source payload (fun p s =>
    checked (writeChecks source (field p 1 1) (field p 2 1) (p.length - 3) s)
      (writeImprint (field p 1 1) (field p 2 1) (p.drop 3)) s)) s

/-- IMPRINT_FIELD's window stored (R101). -/
def setField (page col : Nat) (s : State) : State × Reply :=
  let c := clampTo 0 42 col
  ({ s with ink.fieldPage := page, ink.fieldCol := c },
   some (if c = col then .ok else .clamped, be1 page ++ be1 c))

/-- IMPRINT_FIELD, kind 27 (R101). -/
def execImprintField (source : Station) (payload : List Byte) (s : State) : Host.Outcome State Fault Refusal :=
  act (onCommand 27 source payload (fun p s =>
    checked (openChecks source s ++ [(decide (8 < field p 1 1), .badParam)]) (setField (field p 1 1) (field p 2 1)) s)) s

/-- CASSETTE_LOAD applied to a slot (R9). -/
def loadCassette (k : Slot) (count : Nat) (s : State) : State × Reply :=
  let c := clampTo 0 Config.maxCount count
  let s := casApply k (fun r => (casLoad c r, some .loaded)) s
  (s, some (if c = count then .ok else .clamped, be1 k.number ++ be2 c ++ be1 (s.cas.get k).state.code))

/-- CASSETTE_LOAD's checks, the owner check first (R9, R174). -/
def serveLoad (source : Station) (slot count : Nat) (s : State) : State × Reply :=
  if ownerFails source s then refuse .notOwner s
  else if s.lsv.lane ≠ .service then refuse .badState s
  else match Slot.ofNumber slot with
    | none => refuse .badParam s
    | some k =>
      if (s.cas.get k).state = .unused ∨ (s.cas.get k).state = .absent then refuse .badParam s
      else loadCassette k count s

/-- CASSETTE_LOAD, kind 28. -/
def execCassetteLoad (source : Station) (payload : List Byte) (s : State) : Host.Outcome State Fault Refusal :=
  act (onCommand 28 source payload (fun p => serveLoad source (field p 1 1) (field p 2 2))) s

/-- BIN_SET's counts taken (R68). -/
def setBins (reject retract : Nat) (s : State) : State × Reply :=
  let r := clampTo 0 s.dsp.rejectCap reject
  let t := clampTo 0 s.dsp.retractCap retract
  ({ s with dsp.rejectCount := r, dsp.retractCount := t, dsp.overflow := false },
   some (if r = reject ∧ t = retract then .ok else .clamped, be2 r ++ be2 t))

/-- BIN_SET, kind 29: the owner check first, then SERVICE (R68, R174). -/
def execBinSet (source : Station) (payload : List Byte) (s : State) : Host.Outcome State Fault Refusal :=
  act (onCommand 29 source payload (fun p s =>
    checked [(ownerFails source s, .notOwner), (s.lsv.lane ≠ .service, .badState)]
      (setBins (field p 1 2) (field p 3 2)) s)) s

/-- SERVICE_BEGIN, kind 30 (R146, R184). -/
def execServiceBegin (source : Station) (payload : List Byte) (s : State) : Host.Outcome State Fault Refusal :=
  act (onCommand 30 source payload (fun _ s => checked [(s.lsv.lane ≠ .closed, .badState)]
    (fun s => ({ s with lsv.lane := .service, lsv.serviceTimer := some serviceTime, alm.serviceWindow := true },
      plain .ok)) s)) s

/-- SERVICE_END, kind 31 (R184, R185). -/
def execServiceEnd (source : Station) (payload : List Byte) (s : State) : Host.Outcome State Fault Refusal :=
  act (onCommand 31 source payload (fun _ s => checked [(s.lsv.lane ≠ .service, .badState)]
    (fun s => settled (endService s, plain .ok)) s)) s

/-- ALARM_ACK, kind 32 (R153). -/
def execAlarmAck (source : Station) (payload : List Byte) (s : State) : Host.Outcome State Fault Refusal :=
  act (onCommand 32 source payload (fun _ s => checked [(s.lsv.lane = .awaitConfig, .badState)]
    (fun s => (if s.alm.siren then stopSiren s else s, some (.ok, be1 s.alm.latch.code))) s)) s

/-- ALARM_RESET's steps and answer (R154). -/
def resetAlarms (s : State) : State × Reply :=
  let s := alarmResetSteps s
  settled (s, if s.alm.latch = AlarmSet.empty then plain .ok else some (.stillActive, be1 s.alm.latch.code))

/-- ALARM_RESET, kind 33 (R153, R154). -/
def execAlarmReset (source : Station) (payload : List Byte) (s : State) : Host.Outcome State Fault Refusal :=
  act (onCommand 33 source payload (fun _ s => checked [(s.lsv.lane = .awaitConfig, .badState)] resetAlarms s)) s

/-- QUERY, kind 34 (R178). -/
def execQuery (source : Station) (payload : List Byte) (lines : Lines) (s : State) : Host.Outcome State Fault Refusal :=
  act (onCommand kindQuery source payload (fun p s => serveQuery source p (sample lines s))) s

/-- RESTART taken: its reply's position is held for act 4, and the restart's acts begin (R186). -/
def takeRestart (source : Station) (tag : Byte) (s : State) : State × Reply :=
  let s := { s with lsv.heldRestarts := s.lsv.heldRestarts ++ [(source, tag)],
                    biu.fifo := fillPos .reply (.reserved .restart) s.biu.fifo }
  (settle (restart s), none)

/-- RESTART, kind 35 (R186). -/
def execRestart (source : Station) (payload : List Byte) (lines : Lines) (s : State) : Host.Outcome State Fault Refusal :=
  act (onCommand kindRestart source payload (fun p s =>
    checked [(s.lsv.lane = .awaitConfig, .badState)] (fun s => takeRestart source (p.headD 0) (sample lines s)) s)) s

/-- The check every configuration command begins with (R182). -/
def configCheck (s : State) : List (Bool × Code) := [(s.lsv.lane ≠ .awaitConfig, .configLocked)]

/-- A reply that is CLAMPED if a field was clamped, with the fields as stored (R182). -/
def stored (same : Bool) (detail : List Byte) : Reply := some (if same then .ok else .clamped, detail)

/-- CONFIG_LANE's fields stored and given to their blocks (R144, R182). DESIGN CHOICE, unsafe (log 53): the disregarded bits 7 to
5 of the flags byte are 0 in the reply's detail. -/
def configureLane (p : List Byte) (s : State) : State × Reply :=
  let b := clampTo 10 50 (field p 1 1)
  let take := clampTo 10 120 (field p 2 1)
  let dep := clampTo 20 180 (field p 3 1)
  let limit := field p 4 4
  let gate := clampTo 16 64 (field p 8 1)
  let energy := clampTo 0 63 (field p 9 1)
  let flags := field p 10 1 % 32
  let seq := clampTo 1 Config.maxSequence (field p 11 3)
  let same := b = field p 1 1 && take = field p 2 1 && dep = field p 3 1 && gate = field p 8 1 && energy = field p 9 1
    && seq = field p 11 3
  let s := { s with
    dsp.bundleLimit := b, drw.takeTimeout := take, drw.depositTimeout := dep, pt.wallLimit := limit,
    ntg.gateLength := gate, ink.energy := energy, ink.mirror := flags.testBit 4, ink.seqCounter := seq, lsv.gotLane := true }
  let e := enablesOf flags
  let s := setEnable .four e.four (setEnable .three e.three (setEnable .two e.two (setEnable .one e.one s)))
  (settle s, stored same (be1 b ++ be1 take ++ be1 dep ++ be4 limit ++ be1 gate ++ be1 energy ++ be1 flags ++ be3 seq))

/-- CONFIG_LANE, kind 40 (R182). -/
def execConfigLane (source : Station) (payload : List Byte) (s : State) : Host.Outcome State Fault Refusal :=
  act (onCommand 40 source payload (fun p s => checked (configCheck s) (configureLane p) s)) s

/-- CONFIG_CASSETTE's fields stored for a slot (R10, R182). -/
def configureCassette (p : List Byte) (s : State) : State × Reply :=
  match Slot.ofNumber (field p 1 1) with
  | none => refuse .badParam s
  | some k =>
    let den := field p 2 2
    let nom := clampTo 120 400 (field p 4 2)
    let l := clampTo 8 8184 (field p 6 2)
    let r := clampTo 8 8184 (field p 8 2)
    let count := clampTo 0 Config.maxCount (field p 10 2)
    let low := clampTo 0 Config.maxCount (field p 12 2)
    let same := nom = field p 4 2 && l = field p 6 2 && r = field p 8 2 && count = field p 10 2 && low = field p 12 2
    ({ s with cas := s.cas.modify k (casConfigure den nom l r count low) },
     stored same (be1 k.number ++ be2 den ++ be2 nom ++ be2 l ++ be2 r ++ be2 count ++ be2 low))

/-- CONFIG_CASSETTE, kind 41 (R182). -/
def execConfigCassette (source : Station) (payload : List Byte) (s : State) : Host.Outcome State Fault Refusal :=
  act (onCommand 41 source payload (fun p s => checked (configCheck s) (configureCassette p) s)) s

/-- CONFIG_BINS' fields stored: capacities clamped first, each count to its capacity (R182). -/
def configureBins (p : List Byte) (s : State) : State × Reply :=
  let rcap := clampTo 50 300 (field p 3 2)
  let tcap := clampTo 50 500 (field p 7 2)
  let ccap := clampTo 100 1000 (field p 9 2)
  let rc := clampTo 0 rcap (field p 1 2)
  let tc := clampTo 0 tcap (field p 5 2)
  let same := rcap = field p 3 2 && tcap = field p 7 2 && ccap = field p 9 2 && rc = field p 1 2 && tc = field p 5 2
  ({ s with dsp.rejectCount := rc, dsp.rejectCap := rcap, dsp.retractCount := tc, dsp.retractCap := tcap,
            dsp.overflow := false, pkt.capacity := ccap, lsv.gotBins := true },
   stored same (be2 rc ++ be2 rcap ++ be2 tc ++ be2 tcap ++ be2 ccap))

/-- CONFIG_BINS, kind 42 (R182). -/
def execConfigBins (source : Station) (payload : List Byte) (s : State) : Host.Outcome State Fault Refusal :=
  act (onCommand 42 source payload (fun p s => checked (configCheck s) (configureBins p) s)) s

/-- CONFIG_DONE, kind 43 (R182, R183). -/
def execConfigDone (source : Station) (payload : List Byte) (lines : Lines) (s : State) :
    Host.Outcome State Fault Refusal :=
  act (onCommand 43 source payload (fun _ s =>
    checked (configCheck s ++ [(!s.lsv.gotLane || !s.lsv.gotBins, .configIncomplete)])
      (fun s => settled (enterPurging (sample lines s), plain .ok)) s)) s

/-- BAD_COMMAND (R173): a taken command whose kind or length is not in the table. One that is in the table is no
BAD_COMMAND. -/
def execBadCommand (source : Station) (kind : BitVec 7) (payload : List Byte) (s : State) :
    Host.Outcome State Fault Refusal :=
  act (fun s => when (!lengthAllowed kind payload.length) (onCommand kind source payload (fun _ => refuse .badParam)) s) s

end Sys2Proof.Machine
end

