-- ==== Sys2Proof/Machine/TransportSteps.lean ====
section
/-!
DEFINITION. The meanings of the cassette lines' and the note path's steps, one for each row of the table. `path` counts the
transport pulses since the path's previous command and tells of the exit sensors that cleared (log 4).
-/

namespace Sys2Proof.Machine

open Sys2Proof

/-- The transport in FEEDING or DRAINING, where objects are measured and routed (R39). -/
def NtgState.carries : NtgState → Bool
  | .feeding | .draining => true
  | .idle | .baseline | .purge | .halted => false

/-- Pulses counted on the note path before a step (R20). -/
def advanceTransport (path : PathCount) (s : State) : State := { s with ntg := ntgAdvance path s.ntg }

/-- The last record may have left a draining transport: TRANSPORT_CLEAR (R39). -/
def checkDrained (s : State) : State :=
  let d := ntgDrained s.ntg
  let s := { s with ntg := d.1 }
  if d.2 then dspOnClear s else s

/-- CASSETTE_REMOVED (R3, R59): the debounced presence line opens. -/
def execCassetteRemoved (slot : Slot) (s : State) : Host.Outcome State Fault Refusal :=
  act (fun s => when (s.cas.get slot).present (fun s => settle (casReport slot casRemove s)) s) s

/-- CASSETTE_INSERTED (R4): the debounced presence line closes. -/
def execCassetteInserted (slot : Slot) (s : State) : Host.Outcome State Fault Refusal :=
  act (fun s => when (!(s.cas.get slot).present) (casReport slot casInsert) s) s

/-- TRANSPORT_STALL (R20, R38): 200 ms without a pulse while the motor is driven. -/
def execTransportStall (path : PathCount) (s : State) : Host.Outcome State Fault Refusal :=
  act (fun s =>
    let s := advanceTransport path s
    when s.ntg.state.motor (fun s => settle (transportHalt .stall s)) s) s

/-- The baseline gate closes on its counts (R23, R24, R51). -/
def closeBaseline (cyclesL cyclesR : Nat) (s : State) : State :=
  let l := gaugeCount cyclesL
  let r := gaugeCount cyclesR
  let ok := baselineOk l && baselineOk r
  let n := { s.ntg with c0L := l, c0R := r, valid := ok, state := if ok then .feeding else .idle,
                        order := if ok then s.ntg.order else none }
  dspBaseline ok { s with ntg := n }

/-- BASELINE_GATE_CLOSED (R23, R24, R51). -/
def execBaselineGateClosed (path : PathCount) (cyclesL cyclesR : Nat) (s : State) : Host.Outcome State Fault Refusal :=
  act (fun s =>
    let s := advanceTransport path s
    when (s.ntg.state = .baseline && decide (Config.gateLead + s.ntg.gateLength ≤ s.ntg.sinceStart))
      (fun s => settle (closeBaseline cyclesL cyclesR s)) s) s

/-- A leading edge at the gauge, by the transport's state (R23, R27, R28, R40). DEDUCED, unsafe (log 32): in IDLE with records
kept after a lane fault from another source it is not acted on, as in HALTED (R38). -/
def leadingEdge (s : State) : State :=
  match s.ntg.state with
  | .idle | .halted => s
  | .baseline => ntgJam .strayObject s
  | .feeding | .draining =>
    match firstOf .picked s.ntg.records with
    | none => ntgJam .strayObject s
    | some r =>
      if reached r.sincePick Config.mispickPulses then s
      else { s with ntg.records := changeFirst .picked toGauge s.ntg.records }
  | .purge =>
    match firstOf .picked s.ntg.records with
    | none => { s with ntg.records := s.ntg.records ++ [unknownRecord] }
    | some r =>
      if reached r.sincePick Config.mispickPulses then s
      else { s with ntg.records := changeFirst .picked toGauge s.ntg.records }

/-- EDGE_COVERED (R23, R27, R28, R40): the edge sensor becomes covered. -/
def execEdgeCovered (path : PathCount) (s : State) : Host.Outcome State Fault Refusal :=
  act (fun s =>
    let s := advanceTransport path s
    when (!s.ntg.edge) (fun s => settle (leadingEdge { s with ntg.edge := true })) s) s

/-- A mispick ends a PICKED record and is reported to CAS (R7, R27, R59). -/
def endMispick (s : State) : State :=
  match firstOf .picked s.ntg.records with
  | none => s
  | some r =>
    let s := { s with ntg.records := removeFirst .picked s.ntg.records }
    let s := match r.slot with
      | some k => casReport k casMispick s
      | none => s
    checkDrained s

/-- MISPICK (R27): 120 pulses without a leading edge. -/
def execMispick (path : PathCount) (s : State) : Host.Outcome State Fault Refusal :=
  act (fun s =>
    let s := advanceTransport path s
    when (s.ntg.state.motor
        && (firstOf .picked s.ntg.records).any (fun r => reached r.sincePick Config.mispickPulses))
      (fun s => settle (endMispick s)) s) s

/-- NOTE_GATE_CLOSED (R29 to R32): the gate of the object at the gauge closes with the edge sensor covered. -/
def execNoteGateClosed (path : PathCount) (cyclesL cyclesR : Nat) (s : State) : Host.Outcome State Fault Refusal :=
  act (fun s =>
    let s := advanceTransport path s
    when (s.ntg.state.carries && s.ntg.edge
        && (firstOf .atGauge s.ntg.records).any (fun r =>
              r.counts.isNone && reached r.sinceLead (Config.gateLead + s.ntg.gateLength)))
      (fun s =>
        let close := gateClosed s.cas s.ntg.c0L s.ntg.c0R (gaugeCount cyclesL) (gaugeCount cyclesR)
        { s with ntg.records := changeFirst .atGauge close s.ntg.records }) s) s

/-- An ACCEPT teaches both references of its cassette (R35). -/
def learnFrom (k : Slot) (tL tR : Nat) (s : State) : State :=
  { s with cas := s.cas.modify k (fun c => { c with ref8L := learn c.ref8L tL, ref8R := learn c.ref8R tR }) }

/-- The trailing edge of an object outside a purge run (R33 to R35). -/
def trailNote (r : ObjRec) (s : State) : State :=
  let m := measured s.cas s.ntg.gateLength r
  let s := { s with ntg.records := changeFirst .atGauge (fun _ => m) s.ntg.records, ntg.last := some (lastOf m) }
  match m.slot with
  | none => s
  | some k =>
    let s := casReport k (casDeliver (m.estimate.getD 1)) s
    match m.outcome, m.indices with
    | some .accept, some t => learnFrom k t.1 t.2 s
    | _, _ => s

/-- The trailing edge of an object in a purge run (R40). -/
def trailPurge (r : ObjRec) (s : State) : State :=
  let s := { s with ntg.records := changeFirst .atGauge (purgedEdge s.cas) s.ntg.records }
  match r.slot, r.estimate with
  | some k, none => casReport k (casDeliver 1) s
  | _, _ => s

/-- The edge sensor clears (R33, R34, R40). DESIGN CHOICE, unsafe (log 36): where two records are AT_GAUGE, as after a halt in
which the edge cleared unheeded and a new leading edge in the purge run, the oldest of them is ended; the spec has at most one
there (R22) and does not say which. A record whose edge cleared unheeded in HALTED, or in IDLE after a lane fault from another
source (log 32), with no new leading edge in the purge run, meets no trailing edge and is kept with no report (log 45); an edge
with no record AT_GAUGE ends nothing (log 47). -/
def trailing (s : State) : State :=
  match firstOf .atGauge s.ntg.records with
  | none => s
  | some r =>
    if s.ntg.state.carries then trailNote r s
    else if s.ntg.state = .purge then trailPurge r s
    else s

/-- TRAILING_EDGE (R29, R33 to R35, R40). -/
def execTrailingEdge (path : PathCount) (s : State) : Host.Outcome State Fault Refusal :=
  act (fun s =>
    let s := advanceTransport path s
    when s.ntg.edge (fun s => settle (trailing { s with ntg.edge := false })) s) s

/-- LONG_OBJECT (R33, R40): the edge sensor is still covered at the limit of the record's cassette. -/
def execLongObject (path : PathCount) (s : State) : Host.Outcome State Fault Refusal :=
  act (fun s =>
    let s := advanceTransport path s
    when (s.ntg.state.motor && s.ntg.edge
        && (firstOf .atGauge s.ntg.records).any (fun r => reached r.sinceLead (longLimit (nominalOf s.cas r.slot))))
      (fun s => settle (transportHalt .longObject s)) s) s

/-- An exit arrival outside a purge run (R36, R37, R39, R54). -/
def exitNote (side : Side) (s : State) : State :=
  match firstOf .pastGauge s.ntg.records with
  | none => s
  | some r =>
    let s := { s with ntg.records := removeFirst .pastGauge s.ntg.records }
    let s := dspHandOver (routedOf r side) s
    if r.route ≠ some .stacker ∧ side = .stacker then ntgJam .divertFault s else checkDrained s

/-- An exit arrival in a purge run (R40, R41). DESIGN CHOICE, unsafe (log 46): one at the stacker exit fails the run with the
oldest PAST_GAUGE record kept in the list and nothing handed over; R41 does not say which. -/
def exitPurge (side : Side) (s : State) : State :=
  match side with
  | .stacker => purgeHalt .divertFault s
  | .reject =>
    let r := firstOf .pastGauge s.ntg.records
    purgeHandOver (purgedOf r) { s with ntg.records := removeFirst .pastGauge s.ntg.records }

/-- EXIT_ARRIVAL (R36, R37, R40, R41): an exit sensor becomes covered, and its pulses since then are counted from 0.
DEDUCED, unsafe (log 32): in IDLE with records kept after a lane fault from another source it hands nothing over, as in HALTED
(R38). -/
def execExitArrival (path : PathCount) (side : Side) (s : State) : Host.Outcome State Fault Refusal :=
  act (fun s =>
    let s := advanceTransport path s
    let s := { s with ntg := coverExit side s.ntg }
    if s.ntg.state.carries then settle (exitNote side s)
    else if s.ntg.state = .purge then settle (exitPurge side s)
    else s) s

/-- NO_EXIT (R36): 80 pulses since a trailing edge without an exit arrival. -/
def execNoExit (path : PathCount) (s : State) : Host.Outcome State Fault Refusal :=
  act (fun s =>
    let s := advanceTransport path s
    when (s.ntg.state.motor && s.ntg.records.any (fun r => r.stage = .pastGauge && reached r.sinceTrail Config.exitPulses))
      (fun s => settle (transportHalt .noExit s)) s) s

/-- EXIT_BLOCKED (R36): either exit sensor has stayed covered for 200 pulses. -/
def execExitBlocked (path : PathCount) (s : State) : Host.Outcome State Fault Refusal :=
  act (fun s =>
    let s := advanceTransport path s
    when (s.ntg.state.motor && (reached s.ntg.exitS Config.blockedPulses || reached s.ntg.exitR Config.blockedPulses))
      (fun s => settle (transportHalt .exitBlocked s)) s) s

/-- PURGE_DONE (R41): no record, a clear edge sensor and clear exit sensors for 400 pulses together. -/
def execPurgeDone (path : PathCount) (s : State) : Host.Outcome State Fault Refusal :=
  act (fun s =>
    let s := advanceTransport path s
    when (s.ntg.state = .purge && decide (Config.purgeClearPulses ≤ s.ntg.clearFor))
      (fun s => settle (purgeDone s)) s) s

/-- SUSPEND_TIMEOUT (R61): the suspend timer runs out in SUSPENDED. -/
def execSuspendTimeout (s : State) : Host.Outcome State Fault Refusal :=
  act (fun s => when (s.dsp.state = .suspended && s.dsp.suspendTimer.isSome)
    (fun s => settle (dspEndByPurge .suspendTimeout s)) s) s

end Sys2Proof.Machine
end

