-- ==== Sys2Proof/Machine/DrawerSteps.lean ====
section
/-!
DEFINITION. The meanings of the drawer's steps, one for each row of the table.
-/

namespace Sys2Proof.Machine

open Sys2Proof

/-- TRAY_CHANGE (R73): the debounced TRAY level changes. -/
def execTrayChange (covered : Bool) (s : State) : Host.Outcome State Fault Refusal :=
  act (fun s => settle { s with drw := followTray covered s.drw }) s

/-- TRANSFER_STROKE_END (R77). -/
def execTransferStrokeEnd (lines : Lines) (s : State) : Host.Outcome State Fault Refusal :=
  act (fun s =>
    when (s.drw.stroke.isSome && s.drw.state = .extending && s.drw.phase = .load)
      (fun s => settle (loadEnds s)) (sample lines s)) s

/-- RETURN_LOAD_TIMEOUT (R77, R82): no report of the pocket within 5 s of the tray-ready signal. -/
def execReturnLoadTimeout (lines : Lines) (s : State) : Host.Outcome State Fault Refusal :=
  act (fun s =>
    when (s.drw.load.isSome && s.drw.state = .extending && s.drw.phase = .load)
      (fun s => settle (drawerJam .load s)) (sample lines s)) s

/-- DRAWER_EXTENDED (R77, R81, R83 to R85): the extended switch closes. -/
def execDrawerExtended (s : State) : Host.Outcome State Fault Refusal :=
  act (fun s =>
    let s := { s with lines.ext := true, lines.home := false }
    if s.drw.state = .extending ∧ s.drw.phase = .travel then drawerOpens s
    else if s.drw.state = .opened ∧ s.drw.mode = .backingOff then backedOff s
    else s) s

/-- DRAWER_HOME (R80): the home switch closes while the drawer travels in. -/
def execDrawerHome (lines : Lines) (s : State) : Host.Outcome State Fault Refusal :=
  act (fun s =>
    when (s.drw.state = .retracting) (fun s => settle (drawerArrives s))
      (sample { lines with home := true, ext := false } s)) s

/-- DRAWER_MOTION_TIMEOUT (R77, R80 to R82): the 4 s motion limit runs out; the cause is the movement's. -/
def execDrawerMotionTimeout (lines : Lines) (s : State) : Host.Outcome State Fault Refusal :=
  act (fun s =>
    when s.drw.motion.isSome (fun s =>
      match s.drw.state with
      | .extending => settle (drawerJam .extendTime s)
      | .retracting => settle (drawerJam .retractTime s)
      | .opened => settle (drawerJam .backoffTime s)
      | .closed | .jammed => s) (sample lines s)) s

/-- SAFETY_EDGE_PRESSED (R73, R81): acted on only while RETRACTING. DESIGN CHOICE, unsafe (log 42): an edge that is pressed already when
a retraction begins, from standing OPEN or after a back-off, is no obstruction until it is pressed again. -/
def execSafetyEdgePressed (s : State) : Host.Outcome State Fault Refusal :=
  act (fun s =>
    let s := { s with drw.safe := true }
    when (s.drw.state = .retracting) (fun s => { s with drw := obstructed s.drw }) s) s

/-- SAFETY_EDGE_CLEARED (R78, R81): a retraction that waits for the edge begins. -/
def execSafetyEdgeCleared (s : State) : Host.Outcome State Fault Refusal :=
  act (fun s =>
    let s := { s with drw.safe := false }
    when (s.drw.state = .opened && s.drw.mode = .edgeWait) (fun s => { s with drw := beginRetraction s.drw }) s) s

/-- OBSTRUCTION_WAIT_END (R81): the retry begins, at once or when the safety edge clears. -/
def execObstructionWaitEnd (s : State) : Host.Outcome State Fault Refusal :=
  act (fun s =>
    when (s.drw.state = .opened && s.drw.mode = .waiting && s.drw.obstruct.isSome) (fun s =>
      if s.drw.safe then { s with drw.mode := .edgeWait, drw.obstruct := none }
      else { s with drw := beginRetraction s.drw }) s) s

/-- TRAY_EMPTY_TIMEOUT (R83, R84): the tray has stayed empty for 1 s, so the item is taken. -/
def execTrayEmptyTimeout (s : State) : Host.Outcome State Fault Refusal :=
  act (fun s => when s.drw.trayEmpty.isSome (fun s => settle (itemTaken s)) s) s

/-- TAKE_TIMEOUT (R81, R83, R84). -/
def execTakeTimeout (s : State) : Host.Outcome State Fault Refusal :=
  act (fun s => when s.drw.take.isSome (fun s => settle (takeExpires s)) s) s

/-- DEPOSIT_TIMEOUT (R85): a retract order. -/
def execDepositTimeout (s : State) : Host.Outcome State Fault Refusal :=
  act (fun s => when s.drw.deposit.isSome (fun s =>
    { s with drw := retractOrder { s.drw with deposit := none } }) s) s

/-- SWEEP_END (R83). -/
def execSweepEnd (s : State) : Host.Outcome State Fault Refusal :=
  act (fun s => when s.drw.sweep.isSome (fun s => settle (sweepEnds s)) s) s

end Sys2Proof.Machine
end

