-- ==== Sys2Proof/Machine/IntakeSteps.lean ====
section
/-!
DEFINITION. The meanings of the intake's steps, one for each row of the table. `pulses` counts the intake pulses since the path's
previous command (log 4).
-/

namespace Sys2Proof.Machine

open Sys2Proof

/-- Pulses counted on the intake path before a step (R90). -/
def advanceIntake (pulses : Nat) (s : State) : State := { s with ink := inkAdvance pulses s.ink }

/-- The rollers run backward (R89). -/
def InkState.backward : InkState → Bool
  | .reversing | .ejecting => true
  | .idle | .waiting | .drawing | .printing | .seating | .jammed => false

/-- The sensor has become covered, two pulses at the new level: the leading edge of an item being drawn, if the first of them came
before 200 pulses (R90, R93), or an item's passing on the way back (R97, R99). -/
def intakeCovered (k : Ink) : Ink :=
  let k := { k with sensor := true, sinceClear := 0 }
  if k.state.backward then { k with coveredInRun := true }
  else if k.state = .drawing ∧ k.record.sinceLead = none
      ∧ k.record.sinceStart < Config.drawPulses + Config.sensorLag then
    { k with record := { k.record with sinceLead := some Config.sensorLag } }
  else k

/-- The sensor has become clear, two pulses at the new level: in a run of the rollers the pulses for which it stays clear count
from the first of them (R90, R97). -/
def intakeUncovered (k : Ink) : Ink := { k with sensor := false, sinceClear := Config.sensorLag }

/-- INTAKE_LEADING_EDGE (R90, R93, R97). -/
def execIntakeLeadingEdge (pulses : Nat) (s : State) : Host.Outcome State Fault Refusal :=
  act (fun s =>
    let s := advanceIntake pulses s
    { s with ink := intakeCovered s.ink }) s

/-- NOT_DRAWN (R93): 200 pulses without a leading edge. -/
def execNotDrawn (pulses : Nat) (lines : Lines) (s : State) : Host.Outcome State Fault Refusal :=
  act (fun s =>
    let s := advanceIntake pulses (sample lines s)
    when (s.ink.state = .drawing && s.ink.record.sinceLead.isNone && decide (Config.drawPulses ≤ s.ink.record.sinceStart))
      (fun s =>
        let s := { s with ink.record := { s.ink.record with outcome := some .notDrawn } }
        settle (inkIdle (trayItem .notDrawn 0 s))) s) s

/-- PRINT_WINDOW_OPEN (R94, R102, R103): the number is consumed and the image fixed. -/
def execPrintWindowOpen (pulses : Nat) (s : State) : Host.Outcome State Fault Refusal :=
  act (fun s =>
    let s := advanceIntake pulses s
    when (s.ink.state = .drawing && s.ink.sensor && reached s.ink.record.sinceLead Config.windowPulse) (fun s =>
      let seq := s.takenSeq
      let s := consumeSeq s
      { s with ink := openWindow seq s.ink }) s) s

/-- PRINT_STROBE (R103 to R105): the next strobe of the window, `microseconds` after the one before it; HOT is sampled. -/
def execPrintStrobe (microseconds : Nat) (hot : Bool) (s : State) : Host.Outcome State Fault Refusal :=
  act (fun s =>
    let s := { s with lines.hot := hot }
    match s.ink.state, s.ink.window with
    | .printing, some w =>
      let col := strobeColumn s.ink.mirror (s.ink.record.strobed.getD 0)
      let burned := burns s.ink microseconds
      let time := burnTime s.ink.energy hot
      let s := { s with ink := strobe microseconds hot s.ink }
      if burned then drive (.strobe (columnBytes s.lsv.station w col) time) s else s
    | _, _ => s) s

/-- INTAKE_TRAILING_EDGE (R90, R95, R97, R103). -/
def execIntakeTrailingEdge (pulses : Nat) (s : State) : Host.Outcome State Fault Refusal :=
  act (fun s =>
    let s := advanceIntake pulses s
    let s := { s with ink := intakeUncovered s.ink }
    when (undecided s.ink) (fun s => { s with ink := decideLength s.ink }) s) s

/-- INTAKE_TOO_LONG (R95, R97): the 521st pulse with the sensor still covered. -/
def execIntakeTooLong (pulses : Nat) (s : State) : Host.Outcome State Fault Refusal :=
  act (fun s =>
    let s := advanceIntake pulses s
    when (s.ink.state = .seating && s.ink.record.outcome.isNone && s.ink.sensor
        && reached s.ink.record.sinceLead (Config.maxLength + 1))
      (fun s => { s with ink := reverseItem .tooLong s.ink }) s) s

/-- The record of an envelope that seats (R96). -/
def seatedRecord (seq : Nat) (r : IntakeRec) : EnvRec :=
  let q := r.quality.getD .full
  { seq := seq, length := r.length.getD 0, quality := q, skipped := if q = .part then r.skipped.getD 0 else 0,
    recovered := false, state := .inPocket }

/-- The sensor of the pocket's next place, the one above the records not LAUNCHED, is covered (R96). -/
def State.nextPlaceCovered (s : State) : Bool :=
  match Slot.ofNumber (pocketPosition s.pkt.pocket + 1) with
  | some place => s.lines.places.get place
  | none => false

/-- ENVELOPE_SEATED (R96): the sensor of the next place is covered within 160 pulses of the trailing edge. -/
def execEnvelopeSeated (pulses : Nat) (lines : Lines) (s : State) : Host.Outcome State Fault Refusal :=
  act (fun s =>
    let s := advanceIntake pulses (sample lines s)
    when (s.ink.state = .seating && s.ink.record.outcome = some .accepted
        && !reached (sinceTrailing s.ink.record) Config.seatPulses && s.nextPlaceCovered) (fun s =>
      match s.ink.record.seq with
      | some seq => settle (inkIdle (joinPocket (seatedRecord seq s.ink.record) s))
      | none => s) s) s

/-- SEAT_TIMEOUT (R96, R98). -/
def execSeatTimeout (pulses : Nat) (s : State) : Host.Outcome State Fault Refusal :=
  act (fun s =>
    let s := advanceIntake pulses s
    when (s.ink.state = .seating && s.ink.record.outcome = some .accepted
        && reached (sinceTrailing s.ink.record) Config.seatPulses)
      (fun s => settle (inkJam .seat s)) s) s

/-- The reason of the TRAY_ITEM of a reversal (R97). -/
def reverseReason (o : Option IntakeOutcome) : TrayReason := if o = some .tooLong then .tooLong else .tooShort

/-- REVERSAL_END (R97): the sensor was covered in the reversal and has stayed clear for 60 pulses. -/
def execReversalEnd (pulses : Nat) (lines : Lines) (s : State) : Host.Outcome State Fault Refusal :=
  act (fun s =>
    let s := advanceIntake pulses (sample lines s)
    when (s.ink.state = .reversing && s.ink.record.kind = .intake && s.ink.coveredInRun && runClear s.ink) (fun s =>
      settle (inkIdle (trayItem (reverseReason s.ink.record.outcome) (s.ink.record.seq.getD 0) s))) s) s

/-- REVERSE_TIMEOUT (R97, R98): 1,200 pulses in a reversal. -/
def execReverseTimeout (pulses : Nat) (s : State) : Host.Outcome State Fault Refusal :=
  act (fun s =>
    let s := advanceIntake pulses s
    when (s.ink.state = .reversing && s.ink.record.kind = .intake
        && decide (Config.reversePulses ≤ s.ink.record.sinceStart))
      (fun s => settle (inkJam .reverse s)) s) s

/-- INTAKE_FAILED: a clear run jams and the purge fails (R107, R183). -/
def clearFails (s : State) : State := purgeFail (inkJam .clear s)

/-- INTAKE_STALL (R90, R98, R107): 200 ms without a pulse while the rollers are driven; in a clear run the cause is CLEAR. -/
def execIntakeStall (pulses : Nat) (s : State) : Host.Outcome State Fault Refusal :=
  act (fun s =>
    let s := advanceIntake pulses s
    when s.ink.state.driven (fun s => settle (if s.ink.state = .reversing ∧ s.ink.record.kind = .reverseRun then clearFails s
      else inkJam .stall s)) s) s

/-- EJECT_END (R99, R112): the sensor was covered in the eject and has stayed clear for 60 pulses. -/
def execEjectEnd (pulses : Nat) (lines : Lines) (s : State) : Host.Outcome State Fault Refusal :=
  act (fun s =>
    let s := advanceIntake pulses (sample lines s)
    when (s.ink.state = .ejecting && s.ink.coveredInRun && runClear s.ink)
      (fun s => settle (ejectEnded (inkIdle s))) s) s

/-- EJECT_TIMEOUT (R98, R99): 1,200 pulses in an eject; the drawer decides on the tray level. -/
def execEjectTimeout (pulses : Nat) (lines : Lines) (s : State) : Host.Outcome State Fault Refusal :=
  act (fun s =>
    let s := advanceIntake pulses (sample lines s)
    when (s.ink.state = .ejecting && decide (Config.reversePulses ≤ s.ink.record.sinceStart))
      (fun s => settle (ejectEnded (inkJam .eject s))) s) s

/-- CLEAR_RUN_END (R107): the sensor has stayed clear for 60 pulses; an item that was seen has come back to the tray. DESIGN CHOICE,
unsafe (log 14): its TRAY_ITEM is queued before the ENVELOPE_IN events of the survey that INTAKE_CLEAR sets off. -/
def execClearRunEnd (pulses : Nat) (lines : Lines) (s : State) : Host.Outcome State Fault Refusal :=
  act (fun s =>
    let s := advanceIntake pulses (sample lines s)
    when (s.ink.state = .reversing && s.ink.record.kind = .reverseRun && runClear s.ink) (fun s =>
      let s := if s.ink.coveredInRun then trayItem .cleared 0 s else s
      let s := { s with ink.state := .idle }
      settle (if s.ink.clearPending then clearRequest { s with ink.clearPending := false } else intakeClear s)) s) s

/-- CLEAR_RUN_TIMEOUT (R107): 1,200 pulses in a clear run, or its rollers stall. -/
def execClearRunTimeout (pulses : Nat) (stalled : Bool) (s : State) : Host.Outcome State Fault Refusal :=
  act (fun s =>
    let s := advanceIntake pulses s
    when (s.ink.state = .reversing && s.ink.record.kind = .reverseRun
        && (stalled || decide (Config.reversePulses ≤ s.ink.record.sinceStart)))
      (fun s => settle (clearFails s)) s) s

end Sys2Proof.Machine
end

