-- ==== Sys2Proof/Machine/PocketAlarmSteps.lean ====
section
/-!
DEFINITION. The meanings of the pocket's, the alarm unit's and the service visit's steps, one for each row of the table.
-/

namespace Sys2Proof.Machine

open Sys2Proof

/-- GATE_PULSE (R118): counted only in LAUNCHED. -/
def execGatePulse (s : State) : Host.Outcome State Fault Refusal :=
  act (fun s => when (s.pkt.chute = .launched) (fun s => settle (endLaunch true s)) s) s

/-- GATE_TIMEOUT (R118): the gate timer runs out in LAUNCHED. -/
def execGateTimeout (s : State) : Host.Outcome State Fault Refusal :=
  act (fun s => when (s.pkt.chute = .launched && s.pkt.gate.isSome) (fun s => settle (endLaunch false s)) s) s

/-- FAIRNESS_WAIT_END (R121). -/
def execFairnessWaitEnd (s : State) : Host.Outcome State Fault Refusal :=
  act (fun s => when s.pkt.fairness.isSome (fun s => settle { s with pkt.fairness := none }) s) s

/-- LOOP_CHANGE (R143 to R145): a comparator class has held for 20 ms and becomes the loop's state. -/
def execLoopChange (loop : Slot) (cls : LoopClass) (s : State) : Host.Outcome State Fault Refusal :=
  act (fun s =>
    when ((s.alm.loops.get loop).state ≠ cls) (fun s =>
      let s := { s with alm.loops := s.alm.loops.modify loop (fun l => { l with state := cls }),
                        lines.comparators := s.lines.comparators.set loop cls }
      if (s.alm.loops.get loop).enabled then settle (loopLatches loop s) else s) s) s

/-- SIREN_TOGGLE (R151): 250 ms of a half period are over. -/
def execSirenToggle (s : State) : Host.Outcome State Fault Refusal :=
  act (fun s => when s.alm.sirenToggle.isSome
    (fun s => { s with alm.sirenOn := !s.alm.sirenOn, alm.sirenToggle := some sirenHalf }) s) s

/-- SIREN_TIMEOUT (R151). -/
def execSirenTimeout (s : State) : Host.Outcome State Fault Refusal :=
  act (fun s => when s.alm.sirenTimer.isSome stopSiren s) s

/-- SERVICE_TIMEOUT (R184): the 30 minutes of a service visit are over. -/
def execServiceTimeout (s : State) : Host.Outcome State Fault Refusal :=
  act (fun s => when (s.lsv.lane = .service && s.lsv.serviceTimer.isSome) (fun s => settle (endService s)) s) s

end Sys2Proof.Machine
end

