-- ==== Sys2Proof/Machine/Dispatch.lean ====
section
/-! DEFINITION. The dispatch: one arm for each command of the table, in the table's order. -/

namespace Sys2Proof.Machine

open Sys2Proof

/-- The effect of a command on everything but the queue. -/
def exec (i : Instr) (s : State) : Host.Outcome State Fault Refusal :=
  match i with
  | .powerReset station slow => Sys2Proof.Machine.execPowerReset station slow s
  | .joinBus => Sys2Proof.Machine.execJoinBus s
  | .drawerSwitchesSettled home ext => Sys2Proof.Machine.execDrawerSwitchesSettled home ext s
  | .offerAtIdle => Sys2Proof.Machine.execOfferAtIdle s
  | .attemptLost => Sys2Proof.Machine.execAttemptLost s
  | .commandAck frame => Sys2Proof.Machine.execCommandAck frame s
  | .formErrorBreak error => Sys2Proof.Machine.execFormErrorBreak error s
  | .frameVoided frame => Sys2Proof.Machine.execFrameVoided frame s
  | .quietTimeout => Sys2Proof.Machine.execQuietTimeout s
  | .busStuck => Sys2Proof.Machine.execBusStuck s
  | .busStuckRecovered => Sys2Proof.Machine.execBusStuckRecovered s
  | .ownAttemptCompleted heard => Sys2Proof.Machine.execOwnAttemptCompleted heard s
  | .ownAlarmCompleted heard => Sys2Proof.Machine.execOwnAlarmCompleted heard s
  | .ownStatusCompleted heard => Sys2Proof.Machine.execOwnStatusCompleted heard s
  | .statusPeriod => Sys2Proof.Machine.execStatusPeriod s
  | .statusReceived frame => Sys2Proof.Machine.execStatusReceived frame s
  | .alarmReceived frame => Sys2Proof.Machine.execAlarmReceived frame s
  | .reserveReceived frame => Sys2Proof.Machine.execReserveReceived frame s
  | .ownReserveCompleted heard => Sys2Proof.Machine.execOwnReserveCompleted heard s
  | .releaseReceived frame => Sys2Proof.Machine.execReleaseReceived frame s
  | .chuteClaimReceived frame heard => Sys2Proof.Machine.execChuteClaimReceived frame heard s
  | .chuteReleaseReceived frame heard => Sys2Proof.Machine.execChuteReleaseReceived frame heard s
  | .binEmptiedReceived frame => Sys2Proof.Machine.execBinEmptiedReceived frame s
  | .forgetReceived frame => Sys2Proof.Machine.execForgetReceived frame s
  | .presenceOnlyFrame frame => Sys2Proof.Machine.execPresenceOnlyFrame frame s
  | .peerAbsent station => Sys2Proof.Machine.execPeerAbsent station s
  | .staleTimeout station => Sys2Proof.Machine.execStaleTimeout station s
  | .listenInEnd => Sys2Proof.Machine.execListenInEnd s
  | .laneOpen source payload => Sys2Proof.Machine.execLaneOpen source payload s
  | .laneClose source payload => Sys2Proof.Machine.execLaneClose source payload s
  | .dispense source payload => Sys2Proof.Machine.execDispense source payload s
  | .dispenseMix source payload => Sys2Proof.Machine.execDispenseMix source payload s
  | .continueDispense source payload => Sys2Proof.Machine.execContinue source payload s
  | .cancel source payload => Sys2Proof.Machine.execCancel source payload s
  | .drawerOpen source payload => Sys2Proof.Machine.execDrawerOpen source payload s
  | .drawerClose source payload => Sys2Proof.Machine.execDrawerClose source payload s
  | .envelopeCapture source payload => Sys2Proof.Machine.execEnvelopeCapture source payload s
  | .envelopeReturn source payload => Sys2Proof.Machine.execEnvelopeReturn source payload s
  | .imprintWrite source payload => Sys2Proof.Machine.execImprintWrite source payload s
  | .imprintField source payload => Sys2Proof.Machine.execImprintField source payload s
  | .cassetteLoad source payload => Sys2Proof.Machine.execCassetteLoad source payload s
  | .binSet source payload => Sys2Proof.Machine.execBinSet source payload s
  | .serviceBegin source payload => Sys2Proof.Machine.execServiceBegin source payload s
  | .serviceEnd source payload => Sys2Proof.Machine.execServiceEnd source payload s
  | .alarmAck source payload => Sys2Proof.Machine.execAlarmAck source payload s
  | .alarmReset source payload => Sys2Proof.Machine.execAlarmReset source payload s
  | .query source payload lines => Sys2Proof.Machine.execQuery source payload lines s
  | .restart source payload lines => Sys2Proof.Machine.execRestart source payload lines s
  | .configLane source payload => Sys2Proof.Machine.execConfigLane source payload s
  | .configCassette source payload => Sys2Proof.Machine.execConfigCassette source payload s
  | .configBins source payload => Sys2Proof.Machine.execConfigBins source payload s
  | .configDone source payload lines => Sys2Proof.Machine.execConfigDone source payload lines s
  | .badCommand source kind payload => Sys2Proof.Machine.execBadCommand source kind payload s
  | .cassetteRemoved slot => Sys2Proof.Machine.execCassetteRemoved slot s
  | .cassetteInserted slot => Sys2Proof.Machine.execCassetteInserted slot s
  | .transportStall path => Sys2Proof.Machine.execTransportStall path s
  | .baselineGateClosed path cyclesL cyclesR => Sys2Proof.Machine.execBaselineGateClosed path cyclesL cyclesR s
  | .edgeCovered path => Sys2Proof.Machine.execEdgeCovered path s
  | .mispick path => Sys2Proof.Machine.execMispick path s
  | .noteGateClosed path cyclesL cyclesR => Sys2Proof.Machine.execNoteGateClosed path cyclesL cyclesR s
  | .trailingEdge path => Sys2Proof.Machine.execTrailingEdge path s
  | .longObject path => Sys2Proof.Machine.execLongObject path s
  | .exitArrival path side => Sys2Proof.Machine.execExitArrival path side s
  | .noExit path => Sys2Proof.Machine.execNoExit path s
  | .exitBlocked path => Sys2Proof.Machine.execExitBlocked path s
  | .purgeDone path => Sys2Proof.Machine.execPurgeDone path s
  | .suspendTimeout => Sys2Proof.Machine.execSuspendTimeout s
  | .trayChange covered => Sys2Proof.Machine.execTrayChange covered s
  | .transferStrokeEnd lines => Sys2Proof.Machine.execTransferStrokeEnd lines s
  | .returnLoadTimeout lines => Sys2Proof.Machine.execReturnLoadTimeout lines s
  | .drawerExtended => Sys2Proof.Machine.execDrawerExtended s
  | .drawerHome lines => Sys2Proof.Machine.execDrawerHome lines s
  | .drawerMotionTimeout lines => Sys2Proof.Machine.execDrawerMotionTimeout lines s
  | .safetyEdgePressed => Sys2Proof.Machine.execSafetyEdgePressed s
  | .safetyEdgeCleared => Sys2Proof.Machine.execSafetyEdgeCleared s
  | .obstructionWaitEnd => Sys2Proof.Machine.execObstructionWaitEnd s
  | .trayEmptyTimeout => Sys2Proof.Machine.execTrayEmptyTimeout s
  | .takeTimeout => Sys2Proof.Machine.execTakeTimeout s
  | .depositTimeout => Sys2Proof.Machine.execDepositTimeout s
  | .sweepEnd => Sys2Proof.Machine.execSweepEnd s
  | .intakeLeadingEdge pulses => Sys2Proof.Machine.execIntakeLeadingEdge pulses s
  | .notDrawn pulses lines => Sys2Proof.Machine.execNotDrawn pulses lines s
  | .printWindowOpen pulses => Sys2Proof.Machine.execPrintWindowOpen pulses s
  | .printStrobe microseconds hot => Sys2Proof.Machine.execPrintStrobe microseconds hot s
  | .intakeTrailingEdge pulses => Sys2Proof.Machine.execIntakeTrailingEdge pulses s
  | .intakeTooLong pulses => Sys2Proof.Machine.execIntakeTooLong pulses s
  | .envelopeSeated pulses lines => Sys2Proof.Machine.execEnvelopeSeated pulses lines s
  | .seatTimeout pulses => Sys2Proof.Machine.execSeatTimeout pulses s
  | .reversalEnd pulses lines => Sys2Proof.Machine.execReversalEnd pulses lines s
  | .reverseTimeout pulses => Sys2Proof.Machine.execReverseTimeout pulses s
  | .intakeStall pulses => Sys2Proof.Machine.execIntakeStall pulses s
  | .ejectEnd pulses lines => Sys2Proof.Machine.execEjectEnd pulses lines s
  | .ejectTimeout pulses lines => Sys2Proof.Machine.execEjectTimeout pulses lines s
  | .clearRunEnd pulses lines => Sys2Proof.Machine.execClearRunEnd pulses lines s
  | .clearRunTimeout pulses stalled => Sys2Proof.Machine.execClearRunTimeout pulses stalled s
  | .gatePulse => Sys2Proof.Machine.execGatePulse s
  | .gateTimeout => Sys2Proof.Machine.execGateTimeout s
  | .fairnessWaitEnd => Sys2Proof.Machine.execFairnessWaitEnd s
  | .loopChange loop cls => Sys2Proof.Machine.execLoopChange loop cls s
  | .sirenToggle => Sys2Proof.Machine.execSirenToggle s
  | .sirenTimeout => Sys2Proof.Machine.execSirenTimeout s
  | .serviceTimeout => Sys2Proof.Machine.execServiceTimeout s

end Sys2Proof.Machine
end

