-- ==== Sys2Proof/Machine/Clock.lean ====
section
/-!
DEFINITION. Time (log 3): the table has no row for a tick, so it is what an idle step does. A timer that has run out comes about as its
own step of the table, the first in the table's order; with none due, one millisecond passes for every timer and age.
-/

namespace Sys2Proof.Machine

open Sys2Proof

/-- A timer that has run out. -/
def expired (timer : Option Nat) : Bool := timer = some 0

/-- The station numbers of the peer records (R127). -/
def stations : List Station := (List.range 15).map (fun n => BitVec.ofNat 4 n)

/-- The first record, other than the own, that is PRESENT with an age of 1,000 ms (R129). -/
def duePeer (s : State) : Option Instr :=
  (stations.find? (fun n => n ≠ s.lsv.station && (peerAt s.pt.peers n.toNat).present
    && 1000 ≤ (peerAt s.pt.peers n.toNat).age)).map Instr.peerAbsent

/-- The first record whose stale timer has run out (R120). -/
def dueStale (s : State) : Option Instr :=
  (stations.find? (fun n => expired (peerAt s.pt.peers n.toNat).stale)).map Instr.staleTimeout

/-- The STATUS period runs neither while QUIET nor while the line is stuck (R132). -/
def State.statusRuns (s : State) : Bool := s.biu.quiet.isNone && !s.biu.stuck

/-- Each timer with the step its expiry is and the condition under which that step acts, in the table's order. -/
def expiries (s : State) : List (Bool × Instr) :=
  [(expired s.pt.listenIn, .listenInEnd),
   (expired s.dsp.suspendTimer && s.dsp.state = .suspended, .suspendTimeout),
   (expired s.drw.stroke && s.drw.state = .extending && s.drw.phase = .load, .transferStrokeEnd s.lines),
   (expired s.drw.load && s.drw.state = .extending && s.drw.phase = .load, .returnLoadTimeout s.lines),
   (expired s.drw.motion && s.drw.state ≠ .closed && s.drw.state ≠ .jammed, .drawerMotionTimeout s.lines),
   (expired s.drw.obstruct && s.drw.state = .opened && s.drw.mode = .waiting, .obstructionWaitEnd),
   (expired s.drw.trayEmpty, .trayEmptyTimeout),
   (expired s.drw.take, .takeTimeout),
   (expired s.drw.deposit, .depositTimeout),
   (expired s.drw.sweep, .sweepEnd),
   (expired s.pkt.gate && s.pkt.chute = .launched, .gateTimeout),
   (expired s.pkt.fairness, .fairnessWaitEnd),
   (expired s.alm.sirenToggle, .sirenToggle),
   (expired s.alm.sirenTimer, .sirenTimeout),
   (expired s.lsv.serviceTimer && s.lsv.lane = .service, .serviceTimeout)]

/-- The step of the first timer that has run out. -/
def dueExpiry (s : State) : Option Instr :=
  if expired s.biu.quiet then some .quietTimeout
  else if expired s.pt.statusTimer ∧ s.statusRuns = true then some .statusPeriod
  else match duePeer s with
    | some c => some c
    | none => match dueStale s with
      | some c => some c
      | none => ((expiries s).find? (fun e => e.1)).map (fun e => e.2)

/-- One millisecond of a running timer. -/
def count (timer : Option Nat) : Option Nat := timer.map (· - 1)

/-- One millisecond of a peer record: its age saturates at 2,000 ms, its stale timer runs (R120, R129). -/
def agePeer (p : Peer) : Peer := { p with age := min 2000 (p.age + 1), stale := count p.stale }

/-- One millisecond passes. -/
def tick (s : State) : State :=
  { s with
    biu.quiet := count s.biu.quiet,
    pt.statusTimer := if s.statusRuns then count s.pt.statusTimer else s.pt.statusTimer,
    pt.peers := s.pt.peers.map agePeer, pt.listenIn := count s.pt.listenIn,
    dsp.suspendTimer := count s.dsp.suspendTimer,
    drw.stroke := count s.drw.stroke, drw.load := count s.drw.load, drw.motion := count s.drw.motion,
    drw.obstruct := count s.drw.obstruct, drw.trayEmpty := count s.drw.trayEmpty, drw.take := count s.drw.take,
    drw.deposit := count s.drw.deposit, drw.sweep := count s.drw.sweep,
    pkt.gate := count s.pkt.gate, pkt.fairness := count s.pkt.fairness,
    alm.sirenToggle := count s.alm.sirenToggle, alm.sirenTimer := count s.alm.sirenTimer,
    lsv.serviceTimer := count s.lsv.serviceTimer, outputs := [] }

/-- A step with no command waiting. -/
def idle (s : State) : Host.Outcome State Fault Refusal :=
  match dueExpiry s with
  | some c => exec c s
  | none => .next (tick s)

end Sys2Proof.Machine
end

