-- ==== Sys2Proof/WellFormed.lean ====
section
/-!
DEFINITION. Which commands can come about at all: what the line can carry (R159), which frames are commands of the table (R172,
R173, 10.6) and which stations have a record (R127).
-/

namespace Sys2Proof

open Machine

/-- A frame carries at most 24 payload bytes (R159). -/
def fits (payload : List Byte) : Bool := payload.length ≤ 24

/-- A frame as the line can carry it: the payload is as long as the header announces, at most 24 bytes; beyond an announced
length above 24 nothing is sampled (R159, R163). -/
def aFrame (f : RxFrame) : Bool := fits f.payload && (decide (24 < f.length.toNat) || f.payload.length = f.length.toNat)

/-- A command of the table: from a console, with a tag, of a length its kind allows (R172, R173). -/
def aCommand (kind : BitVec 7) (source : Station) (payload : List Byte) : Bool :=
  isConsole source && payload ≠ [] && fits payload && lengthAllowed kind payload.length

/-- The payload bytes of the frame a command stands for; none where it is no frame. -/
def Instr.payload : Instr → List Byte
  | .powerReset _ _ => []
  | .joinBus => []
  | .drawerSwitchesSettled _ _ => []
  | .offerAtIdle => []
  | .attemptLost => []
  | .commandAck frame => frame.payload
  | .formErrorBreak _ => []
  | .frameVoided frame => match frame with
    | some f => f.payload
    | none => []
  | .quietTimeout => []
  | .busStuck => []
  | .busStuckRecovered => []
  | .ownAttemptCompleted _ => []
  | .ownAlarmCompleted _ => []
  | .ownStatusCompleted _ => []
  | .statusPeriod => []
  | .statusReceived frame => frame.payload
  | .alarmReceived frame => frame.payload
  | .reserveReceived frame => frame.payload
  | .ownReserveCompleted _ => []
  | .releaseReceived frame => frame.payload
  | .chuteClaimReceived frame _ => frame.payload
  | .chuteReleaseReceived frame _ => frame.payload
  | .binEmptiedReceived frame => frame.payload
  | .forgetReceived frame => frame.payload
  | .presenceOnlyFrame frame => frame.payload
  | .peerAbsent _ => []
  | .staleTimeout _ => []
  | .listenInEnd => []
  | .laneOpen _ payload => payload
  | .laneClose _ payload => payload
  | .dispense _ payload => payload
  | .dispenseMix _ payload => payload
  | .continueDispense _ payload => payload
  | .cancel _ payload => payload
  | .drawerOpen _ payload => payload
  | .drawerClose _ payload => payload
  | .envelopeCapture _ payload => payload
  | .envelopeReturn _ payload => payload
  | .imprintWrite _ payload => payload
  | .imprintField _ payload => payload
  | .cassetteLoad _ payload => payload
  | .binSet _ payload => payload
  | .serviceBegin _ payload => payload
  | .serviceEnd _ payload => payload
  | .alarmAck _ payload => payload
  | .alarmReset _ payload => payload
  | .query _ payload _ => payload
  | .restart _ payload _ => payload
  | .configLane _ payload => payload
  | .configCassette _ payload => payload
  | .configBins _ payload => payload
  | .configDone _ payload _ => payload
  | .badCommand _ _ payload => payload
  | .cassetteRemoved _ => []
  | .cassetteInserted _ => []
  | .transportStall _ => []
  | .baselineGateClosed _ _ _ => []
  | .edgeCovered _ => []
  | .mispick _ => []
  | .noteGateClosed _ _ _ => []
  | .trailingEdge _ => []
  | .longObject _ => []
  | .exitArrival _ _ => []
  | .noExit _ => []
  | .exitBlocked _ => []
  | .purgeDone _ => []
  | .suspendTimeout => []
  | .trayChange _ => []
  | .transferStrokeEnd _ => []
  | .returnLoadTimeout _ => []
  | .drawerExtended => []
  | .drawerHome _ => []
  | .drawerMotionTimeout _ => []
  | .safetyEdgePressed => []
  | .safetyEdgeCleared => []
  | .obstructionWaitEnd => []
  | .trayEmptyTimeout => []
  | .takeTimeout => []
  | .depositTimeout => []
  | .sweepEnd => []
  | .intakeLeadingEdge _ => []
  | .notDrawn _ _ => []
  | .printWindowOpen _ => []
  | .printStrobe _ _ => []
  | .intakeTrailingEdge _ => []
  | .intakeTooLong _ => []
  | .envelopeSeated _ _ => []
  | .seatTimeout _ => []
  | .reversalEnd _ _ => []
  | .reverseTimeout _ => []
  | .intakeStall _ => []
  | .ejectEnd _ _ => []
  | .ejectTimeout _ _ => []
  | .clearRunEnd _ _ => []
  | .clearRunTimeout _ _ => []
  | .gatePulse => []
  | .gateTimeout => []
  | .fairnessWaitEnd => []
  | .loopChange _ _ => []
  | .sirenToggle => []
  | .sirenTimeout => []
  | .serviceTimeout => []

/-- The command can come about. -/
def Instr.wellFormed : Instr → Bool
  | .powerReset _ _ => true
  | .joinBus => true
  | .drawerSwitchesSettled _ _ => true
  | .offerAtIdle => true
  | .attemptLost => true
  | .commandAck frame => aFrame frame
  | .formErrorBreak _ => true
  | .frameVoided frame => match frame with
    | some f => aFrame f
    | none => true
  | .quietTimeout => true
  | .busStuck => true
  | .busStuckRecovered => true
  | .ownAttemptCompleted _ => true
  | .ownAlarmCompleted _ => true
  | .ownStatusCompleted _ => true
  | .statusPeriod => true
  | .statusReceived frame => aFrame frame
  | .alarmReceived frame => aFrame frame
  | .reserveReceived frame => aFrame frame
  | .ownReserveCompleted _ => true
  | .releaseReceived frame => aFrame frame
  | .chuteClaimReceived frame _ => aFrame frame
  | .chuteReleaseReceived frame _ => aFrame frame
  | .binEmptiedReceived frame => aFrame frame
  | .forgetReceived frame => aFrame frame
  | .presenceOnlyFrame frame => aFrame frame
  | .peerAbsent station => decide (station.toNat < 15)
  | .staleTimeout station => decide (station.toNat < 15)
  | .listenInEnd => true
  | .laneOpen source payload => aCommand 16 source payload
  | .laneClose source payload => aCommand 17 source payload
  | .dispense source payload => aCommand 18 source payload
  | .dispenseMix source payload => aCommand 19 source payload
  | .continueDispense source payload => aCommand 20 source payload
  | .cancel source payload => aCommand 21 source payload
  | .drawerOpen source payload => aCommand 22 source payload
  | .drawerClose source payload => aCommand 23 source payload
  | .envelopeCapture source payload => aCommand 24 source payload
  | .envelopeReturn source payload => aCommand 25 source payload
  | .imprintWrite source payload => aCommand 26 source payload
  | .imprintField source payload => aCommand 27 source payload
  | .cassetteLoad source payload => aCommand 28 source payload
  | .binSet source payload => aCommand 29 source payload
  | .serviceBegin source payload => aCommand 30 source payload
  | .serviceEnd source payload => aCommand 31 source payload
  | .alarmAck source payload => aCommand 32 source payload
  | .alarmReset source payload => aCommand 33 source payload
  | .query source payload _ => aCommand 34 source payload
  | .restart source payload _ => aCommand 35 source payload
  | .configLane source payload => aCommand 40 source payload
  | .configCassette source payload => aCommand 41 source payload
  | .configBins source payload => aCommand 42 source payload
  | .configDone source payload _ => aCommand 43 source payload
  | .badCommand source kind payload =>
    isConsole source && payload ≠ [] && fits payload && !lengthAllowed kind payload.length
  | .cassetteRemoved _ => true
  | .cassetteInserted _ => true
  | .transportStall _ => true
  | .baselineGateClosed _ _ _ => true
  | .edgeCovered _ => true
  | .mispick _ => true
  | .noteGateClosed _ _ _ => true
  | .trailingEdge _ => true
  | .longObject _ => true
  | .exitArrival _ _ => true
  | .noExit _ => true
  | .exitBlocked _ => true
  | .purgeDone _ => true
  | .suspendTimeout => true
  | .trayChange _ => true
  | .transferStrokeEnd _ => true
  | .returnLoadTimeout _ => true
  | .drawerExtended => true
  | .drawerHome _ => true
  | .drawerMotionTimeout _ => true
  | .safetyEdgePressed => true
  | .safetyEdgeCleared => true
  | .obstructionWaitEnd => true
  | .trayEmptyTimeout => true
  | .takeTimeout => true
  | .depositTimeout => true
  | .sweepEnd => true
  | .intakeLeadingEdge _ => true
  | .notDrawn _ _ => true
  | .printWindowOpen _ => true
  | .printStrobe _ _ => true
  | .intakeTrailingEdge _ => true
  | .intakeTooLong _ => true
  | .envelopeSeated _ _ => true
  | .seatTimeout _ => true
  | .reversalEnd _ _ => true
  | .reverseTimeout _ => true
  | .intakeStall _ => true
  | .ejectEnd _ _ => true
  | .ejectTimeout _ _ => true
  | .clearRunEnd _ _ => true
  | .clearRunTimeout _ _ => true
  | .gatePulse => true
  | .gateTimeout => true
  | .fairnessWaitEnd => true
  | .loopChange _ _ => true
  | .sirenToggle => true
  | .sirenTimeout => true
  | .serviceTimeout => true

end Sys2Proof
end

