-- ==== Sys2Proof/Safety.lean ====
section
/-!
DEFINITION. What counts as a sound state and a safe step, in the terms the statements use: the forms the chapters promise for the
cassette records, the pocket, the chute, the wall exposure, the alarms and the outbox, and the vocabulary of taken commands.
-/

namespace Sys2Proof.Machine

open Sys2Proof

/-! ### Cassettes (R1, R2, R3, R10, R35) -/

/-- A cassette record within R1's ranges, in the state R2 gives it, with a count only while a cassette is there. -/
structure Cassette.Sound (c : Cassette) : Prop where
  state        : c.state = casState c
  denomination : c.denomination ≤ 65535
  nominal      : 120 ≤ c.nominal ∧ c.nominal ≤ 400
  ref8L        : 8 ≤ c.ref8L ∧ c.ref8L ≤ 8184
  ref8R        : 8 ≤ c.ref8R ∧ c.ref8R ≤ 8184
  count        : c.count ≤ c.loaded
  loaded       : c.loaded ≤ 3000
  lowMark      : c.lowMark ≤ 3000
  mispicks     : c.mispicks ≤ 3
  gone         : c.denomination = 0 ∨ c.present = false → c.count = 0

/-- All four records are sound. -/
def CassettesSound (s : State) : Prop := ∀ k : Slot, (s.cas.get k).Sound

/-! ### Pocket (R94, R109) -/

/-- Records CAPTURE_WAIT and then records IN_POCKET (R109). -/
def waitForm : List EnvRec → Bool
  | [] => true
  | e :: rest =>
    match e.state with
    | .captureWait => waitForm rest
    | .inPocket => rest.all (fun r => r.state = .inPocket)
    | .returning | .launched => false

/-- The two forms in which the pocket list reads from the oldest end (R109). -/
def pocketForm : List EnvRec → Bool
  | [] => true
  | e :: rest =>
    match e.state with
    | .returning => rest.all (fun r => r.state = .inPocket)
    | .launched => waitForm rest
    | .captureWait | .inPocket => waitForm (e :: rest)

/-- A number an envelope may carry (R94). -/
def isSequence (n : Nat) : Prop := 1 ≤ n ∧ n ≤ 999999

/-- An intake between its start and its end holds a place of the pocket (R91). -/
def InkState.taking : InkState → Bool
  | .drawing | .printing | .seating => true
  | .idle | .waiting | .reversing | .ejecting | .jammed => false

/-- The pocket holds at most four records with distinct numbers, in one of the two forms of R109, and an intake under way has
a place left and a number that no record carries (R91, R94). -/
structure PocketSound (s : State) : Prop where
  form    : pocketForm s.pkt.pocket = true
  places  : s.pkt.pocket.length ≤ 4
  numbers : (s.pkt.pocket.map (fun e => e.seq)).Nodup
  range   : ∀ e ∈ s.pkt.pocket, isSequence e.seq
  counter : isSequence s.ink.seqCounter
  room    : s.ink.state.taking = true → s.pkt.pocket.length < 4
  fresh   : s.ink.state.taking = true → ∀ q, s.ink.record.seq = some q →
              isSequence q ∧ ∀ e ∈ s.pkt.pocket, e.seq ≠ q

/-! ### Alarms (R146, R148, R151, R152) -/

/-- The wall alarm set is the union the blocks hold, the relay follows the own DURESS latch, the siren and its two timers run
together, and the service window is open in SERVICE only. -/
structure AlarmSound (s : State) : Prop where
  wall   : s.alm.wall = s.formedWall
  relay  : s.alm.relay = s.alm.latch.duress
  timer  : s.alm.sirenTimer.isSome = s.alm.siren
  toggle : s.alm.sirenToggle.isSome = s.alm.siren
  pulse  : s.alm.sirenOn = true → s.alm.siren = true
  window : s.alm.serviceWindow = decide (s.lsv.lane = .service)

/-! ### Outbox and void confinement (R167, R168, R169) -/

/-- The FIFO has at most eight positions taken, the void count stays within 0 to 16 and stands at 16 in QUIET alone. -/
structure OutboxSound (s : State) : Prop where
  fifo  : s.biu.fifo.length ≤ 8
  voids : s.biu.voidCount ≤ 16
  quiet : s.biu.quiet = none → s.biu.voidCount < 16

/-! ### Chute (R115, R117 to R120) -/

/-- The number of stations the own table records as chute holder (R117). -/
def State.holderCount (s : State) : Nat := (s.pt.peers.toList.filter (fun p => p.holder)).length

/-- A frame of the wall queue that releases the chute. -/
def WallItem.isChuteRelease : WallItem → Bool
  | .chuteRelease _ => true
  | .reserve _ | .release _ | .claim => false

/-- The oldest record is LAUNCHED. -/
def State.oldestLaunched (s : State) : Bool :=
  match s.pkt.pocket with
  | e :: _ => e.state = .launched
  | [] => false

/-- A wall frame in transmission still stands in the wall queue (R170). -/
def State.sendingQueued (s : State) : Prop := ∀ w, s.sending = some w → w ∈ s.biu.wallQueue

/-- The chute protocol of the own side: at most one holder; the own station holds exactly in LAUNCHED and RELEASING; a claim is
queued exactly in CLAIMING and a release exactly in RELEASING; the oldest record is LAUNCHED and the gate timer runs exactly
in LAUNCHED; the own record never has a stale timer. -/
structure ChuteSound (s : State) : Prop where
  pocket   : PocketSound s
  holders  : s.holderCount ≤ 1
  own      : s.ownHolder = true ↔ (s.pkt.chute = .launched ∨ s.pkt.chute = .releasing)
  claims   : s.biu.wallQueue.count .claim = if s.pkt.chute = .claiming then 1 else 0
  releases : (s.biu.wallQueue.filter WallItem.isChuteRelease).length = if s.pkt.chute = .releasing then 1 else 0
  launched : s.oldestLaunched = true ↔ s.pkt.chute = .launched
  gate     : s.pkt.gate.isSome = true ↔ s.pkt.chute = .launched
  stale    : (peerAt s.pt.peers s.lsv.station.toNat).stale = none
  queued   : s.sendingQueued

/-! ### Exposure (R50, R63, R65, R138 to R140, R169) -/

/-- A frame of the wall queue about the wall exposure. -/
def WallItem.isExposure : WallItem → Bool
  | .reserve _ | .release _ => true
  | .claim | .chuteRelease _ => false

/-- The frames about the exposure that stand in the wall queue, oldest first. -/
def State.exposureQueue (s : State) : List WallItem := s.biu.wallQueue.filter WallItem.isExposure

/-- A dispense runs and its RESERVE has left the outbox. -/
def State.reserved (s : State) : Bool := s.dsp.dispensing && s.dsp.state ≠ .reserving

/-- States of the dispense engine that belong to a running dispense, whatever the mark says. -/
def DspState.running : DspState → Bool
  | .reserving | .baseline | .picking | .stacked | .presenting | .suspended => true
  | .purging | .idle | .fault => false

/-- The own exposure entry is the amount of the active dispense once its RESERVE has completed, and 0 otherwise (R140), with what
keeps it so: how the dispense's marks, the wall queue and the RESERVE in transmission stand to each other. -/
structure ExposureSound (s : State) : Prop where
  entry    : s.ownExposure = if s.reserved then s.dsp.amount else 0
  running  : s.dsp.state.running = true → s.dsp.dispensing = true
  resting  : s.dsp.state = .idle ∨ s.dsp.state = .fault → s.dsp.dispensing = false
  mark     : s.dsp.dispensing = true → s.dsp.reservation = if s.dsp.state = .reserving then .queued else .sent
  reserve  : s.dsp.state = .reserving → s.exposureQueue = [.reserve s.dsp.amount]
               ∨ ∃ x, s.exposureQueue = [.release x, .reserve s.dsp.amount]
  quiet    : s.reserved = true → s.exposureQueue = []
  ended    : s.dsp.dispensing = false → s.exposureQueue = [] ∨ ∃ x, s.exposureQueue = [.release x]
  sending  : ∀ a, s.sending = some (.reserve a) → s.exposureQueue = [.reserve a]
  queued   : s.sendingQueued
  held     : s.lsv.heldRestarts ≠ [] → s.dsp.state = .reserving ∧ s.dsp.pendingEnd.isSome = true ∧ s.reserveSending = true
  lane     : s.lsv.lane ≠ .starting → isLane s.lsv.station = true
  unset    : s.lsv.lane = .starting ∨ s.lsv.lane = .awaitConfig → s.dsp.dispensing = false

/-! ### Moves of the lane state (R180) -/

/-- What one step may make of the lane state (R180): the moves of the table, with a purge that a JAMMED drawer fails at once seen
as the move to FAULT (R183). -/
def laneMove (a b : LaneState) : Bool :=
  a = b || (a = .starting && b = .awaitConfig) || (a = .purging && b = .listening) || (a = .listening && b = .closed)
    || (a = .closed && (b = .opened || b = .service)) || ((a = .opened || a = .service) && b = .closed)
    || (a ≠ .starting && (b = .purging || b = .fault))

/-! ### Taken commands (R172, R173) -/

/-- The lane has joined the bus and has driven the ACK of exactly this command frame (R172). -/
def Taken (s : State) (source : Station) (kind : BitVec 7) (payload : List Byte) : Prop :=
  s.joined = true ∧ s.cmd.acked = some { source := source, kind := kind, payload := payload }

/-- The state in which a taken command's block sees the lane: the source heard (R129, R167), the frame's ACK used up, no output
driven yet. -/
def atCommand (s : State) (source : Station) : State := { hear source { s with outputs := [] } with cmd.acked := none }

/-- The state with the reply in the position reserved for it (R173, R175). -/
def replied (source : Station) (tag : Byte) (kind : BitVec 7) (code : Code) (detail : List Byte) (s : State) : State :=
  fillFrame .reply (replyFrame source tag kind code detail) s

/-- The state as every step begins: no momentary output driven (log 26). -/
def begun (s : State) : State := { s with outputs := [] }

/-- The blocks have nothing to take: no intake waits, no notes request is pending, the transport rests its diverter where its records
send it and no pick can fire, and the chute claims nothing new and withdraws nothing. -/
structure AtRest (s : State) : Prop where
  ink : s.ink.state ≠ .waiting
  drw : s.drw.pendingReq = none
  div : ntgDivert s.ntg = s.ntg
  ntg : fires s = none
  pkt : settlePkt s = s

/-- The lane has no owner console, or the sender is it (R174). -/
def OwnerPasses (s : State) (source : Station) : Prop := s.cmd.owner = none ∨ s.cmd.owner = some source

/-- A lane OPEN to this console: the checks that open most tables pass (R46, R75, R100, R111). -/
def OpenTo (s : State) (source : Station) : Prop := s.lsv.lane = .opened ∧ OwnerPasses s source

/-- A command of a lane that must be OPEN to its sender is refused by its table's first two orders, and changes nothing but its answer
(R46, R60, R62, R75, R79, R100, R101, R111). -/
structure RefusedUnlessOpen (s : State) (source : Station) (tag : Byte) (kind : BitVec 7) (i : Instr) : Prop where
  service  : s.lsv.lane = .service → exec i s = .next (replied source tag kind .service [] (atCommand s source))
  closed   : s.lsv.lane ≠ .service → s.lsv.lane ≠ .opened →
               exec i s = .next (replied source tag kind .laneClosed [] (atCommand s source))
  notOwner : s.lsv.lane = .opened → ¬ OwnerPasses s source →
               exec i s = .next (replied source tag kind .notOwner [] (atCommand s source))

/-- The states in which a dispense may start (R46, orders 3 to 8). -/
structure MayDispense (s : State) : Prop where
  silent  : s.silent = false
  lock    : s.lockdown = false
  idle    : s.dsp.state = .idle
  listen  : s.listening = false
  reject  : 12 + s.dsp.bundleLimit ≤ s.dsp.rejectCap - s.dsp.rejectCount
  retract : s.dsp.bundleLimit ≤ s.dsp.retractCap - s.dsp.retractCount

/-- The source, kind and payload of the command frame a console command stands for. -/
def consoleCommand : Instr → Option (Station × BitVec 7 × List Byte)
  | .laneOpen source p => some (source, 16, p)
  | .laneClose source p => some (source, 17, p)
  | .dispense source p => some (source, 18, p)
  | .dispenseMix source p => some (source, 19, p)
  | .continueDispense source p => some (source, 20, p)
  | .cancel source p => some (source, 21, p)
  | .drawerOpen source p => some (source, 22, p)
  | .drawerClose source p => some (source, 23, p)
  | .envelopeCapture source p => some (source, 24, p)
  | .envelopeReturn source p => some (source, 25, p)
  | .imprintWrite source p => some (source, 26, p)
  | .imprintField source p => some (source, 27, p)
  | .cassetteLoad source p => some (source, 28, p)
  | .binSet source p => some (source, 29, p)
  | .serviceBegin source p => some (source, 30, p)
  | .serviceEnd source p => some (source, 31, p)
  | .alarmAck source p => some (source, 32, p)
  | .alarmReset source p => some (source, 33, p)
  | .query source p _ => some (source, 34, p)
  | .restart source p _ => some (source, 35, p)
  | .configLane source p => some (source, 40, p)
  | .configCassette source p => some (source, 41, p)
  | .configBins source p => some (source, 42, p)
  | .configDone source p _ => some (source, 43, p)
  | .badCommand source kind p => some (source, kind, p)
  | .powerReset .. | .joinBus | .drawerSwitchesSettled .. | .offerAtIdle | .attemptLost | .commandAck ..
  | .formErrorBreak .. | .frameVoided .. | .quietTimeout | .busStuck | .busStuckRecovered
  | .ownAttemptCompleted .. | .ownAlarmCompleted .. | .ownStatusCompleted .. | .statusPeriod
  | .statusReceived .. | .alarmReceived .. | .reserveReceived .. | .ownReserveCompleted ..
  | .releaseReceived .. | .chuteClaimReceived .. | .chuteReleaseReceived .. | .binEmptiedReceived ..
  | .forgetReceived .. | .presenceOnlyFrame .. | .peerAbsent .. | .staleTimeout .. | .listenInEnd
  | .cassetteRemoved .. | .cassetteInserted .. | .transportStall .. | .baselineGateClosed .. | .edgeCovered ..
  | .mispick .. | .noteGateClosed .. | .trailingEdge .. | .longObject .. | .exitArrival .. | .noExit ..
  | .exitBlocked .. | .purgeDone .. | .suspendTimeout | .trayChange .. | .transferStrokeEnd ..
  | .returnLoadTimeout .. | .drawerExtended | .drawerHome .. | .drawerMotionTimeout .. | .safetyEdgePressed
  | .safetyEdgeCleared | .obstructionWaitEnd | .trayEmptyTimeout | .takeTimeout | .depositTimeout | .sweepEnd
  | .intakeLeadingEdge .. | .notDrawn .. | .printWindowOpen .. | .printStrobe .. | .intakeTrailingEdge ..
  | .intakeTooLong .. | .envelopeSeated .. | .seatTimeout .. | .reversalEnd .. | .reverseTimeout ..
  | .intakeStall .. | .ejectEnd .. | .ejectTimeout .. | .clearRunEnd .. | .clearRunTimeout .. | .gatePulse
  | .gateTimeout | .fairnessWaitEnd | .loopChange .. | .sirenToggle | .sirenTimeout | .serviceTimeout => none

/-! ### Frames (R129, R159, R160) -/

/-- A broadcast as a station that finds no error in it has sampled it, with the length it announces and the CRC of its bits (R159,
R160). -/
def broadcast (cls : BitVec 3) (source : Station) (kind : BitVec 7) (payload : List Byte) : RxFrame :=
  { cls := cls, source := source, dest := 15, kind := kind, length := BitVec.ofNat 6 payload.length, payload := payload,
    crc := frameCrc cls source 15 kind payload, formError := false }

/-- What a lane that has joined drives in the slots of another station's clean broadcast: the ACK, unless it is QUIET, the line is
stuck, or a frame of its own is in transmission (R164, R165, R168). -/
def ackDrives (s : State) : List Output :=
  if s.biu.quiet = none ∧ s.biu.stuck = false ∧ s.biu.attempt = none then [.ack] else []

/-- A clean broadcast in force has been heard: its ACK slot driven, the void count 0 again, and a break sent before it of no more
account (R165, R167). -/
def heard (s : State) : State :=
  { begun s with biu.voidCount := 0, biu.broken := false, outputs := ackDrives s }

/-- A clean broadcast in force from another station reaches its record: PRESENT, age 0, and what the frame carries (R129). -/
def received (source : Station) (carry : Peer → Peer) (s : State) : State :=
  setPeer source (fun p => carry { p with present := true, age := 0 }) (heard s)

/-- The station may answer an error it finds in a frame: it has joined, is neither QUIET nor at a stuck line, and has sent no break in
the frame (R163 to R165, R168). -/
def MayAnswer (s : State) : Prop := s.joined = true ∧ s.biu.quiet = none ∧ s.biu.stuck = false ∧ s.biu.broken = false

/-- The station finds a form error in a frame, a length field above 24 among them (R159, R163). -/
def FormErrorIn (f : RxFrame) : Prop := f.formError = true ∨ 24 < f.length.toNat

/-- How a station with no frame of its own on the line answers an error it finds in another's frame: a form error with a break, a CRC
that does not match with OBJECT (R163, R165). -/
def Answers (s : State) (f : RxFrame) (o : Output) : Prop :=
  MayAnswer s ∧ s.biu.attempt = none ∧ ((FormErrorIn f ∧ o = .lineBreak) ∨ (¬ FormErrorIn f ∧ rxCrc f ≠ f.crc ∧ o = .object))

/-- A void this station makes by a drive of the line, of a state with no frame of its own on it: it is counted, and the 16th enters
QUIET for 2 s, with listen-in stopped and a RESERVE still queued withdrawn, which ends its dispense (R50, R135, R167, R168). -/
structure CountedVoid (u t : State) (o : Output) : Prop where
  below     : u.biu.voidCount + 1 < 16 →
                t = settle { u with biu.voidCount := u.biu.voidCount + 1, outputs := u.outputs ++ [o] }
  quiet     : u.biu.voidCount = 15 → u.dsp.state ≠ .reserving → t = settle { u with
                biu.voidCount := 16, biu.quiet := some 2000, pt.listenIn := none, outputs := u.outputs ++ [o] }
  withdrawn : u.biu.voidCount = 15 → u.dsp.state = .reserving → u.dsp.reservation = .queued →
                t = settle (dspEnd .busFault .idle (dropWall (.reserve u.dsp.amount) { u with
                  biu.voidCount := 16, biu.quiet := some 2000, pt.listenIn := none, outputs := u.outputs ++ [o] }))

/-- The state in which a frame of another station ends that this station has voided: what its ACK reserved is free again, and its break
of no more account (R166, R172; log 25, 35). -/
def frameEnded (s : State) : State := { dropReservations (begun s) with biu.broken := false }

/-- A row of another station's frame in which this station finds an error: an error it answers ends the frame as FRAME_VOIDED does, and
one it cannot answer leaves the frame in force nowhere (R163, R165, R166, R168; log 35). -/
structure ErrorRow (s : State) (f : RxFrame) (c : Instr) (ended : State → State) : Prop where
  voided  : MayAnswer s → FormErrorIn f ∨ (rxCrc f ≠ f.crc ∧ s.biu.attempt = none) →
              exec c s = exec (.frameVoided (some f)) s
  ignored : s.joined = true → FormErrorIn f ∨ rxCrc f ≠ f.crc → ¬ MayAnswer s ∨ (¬ FormErrorIn f ∧ s.biu.attempt ≠ none) →
              exec c s = .next (ended { begun s with biu.broken := false })

/-- An attempt with its CRC over header and payload (R159, R160). -/
def lineAttempt (s : State) (item : OfferItem) (cls : Nat) (dest : Station) (kind : Nat) (payload : List Byte) : Attempt :=
  { item := item, cls := cls, dest := dest, kind := kind, payload := payload,
    crc := frameCrc (BitVec.ofNat 3 cls) s.lsv.station dest (BitVec.ofNat 7 kind) payload }

/-! ### The pick list (R48) -/

/-- The notes of each bundle of a pick list, the first of which holds some already: the PICK entries' counts up to each PRESENT or
PRESENT_FINAL entry. -/
def bundleSizes : Nat → List Entry → List Nat
  | _, [] => []
  | held, e :: rest =>
    match e.kind with
    | .pick => bundleSizes (held + e.wanted) rest
    | .present | .presentFinal => held :: bundleSizes 0 rest

/-- The notes a pick list orders, one by one, by their slots. -/
def ordered (l : List Entry) : List Slot :=
  l.flatMap (fun e => if e.kind = .pick then List.replicate e.wanted e.slot else [])

/-- The pick list of a mix in bundles of `limit` notes, the first of which holds `held` already (R48): every entry PENDING, the mix's
notes in its order, one PICK entry of at least one note for each slot of a bundle, every bundle but the last full, the last not
empty, and the one PRESENT_FINAL at the end. -/
structure ListOf (limit held : Nat) (mix : Mix) (l : List Entry) : Prop where
  fresh   : ∀ e ∈ l, e.state = .pending ∧ e.done = 0
  notes   : ordered l = mix.flatMap (fun p => List.replicate p.2 p.1)
  wanted  : ∀ e ∈ l, e.kind = .pick → 1 ≤ e.wanted ∧ e.wanted ≤ limit
  merged  : ∀ (i : Nat) (a b : Entry), l[i]? = some a → l[i + 1]? = some b → a.kind = .pick → b.kind = .pick → a.slot ≠ b.slot
  bundles : ∃ full last, bundleSizes held l = List.replicate full limit ++ [last] ∧ last ≤ limit
              ∧ (1 ≤ held + (mix.map (fun p => p.2)).sum → 1 ≤ last)
  ends    : ∃ front, l = front ++ [closeEntry .presentFinal] ∧ ∀ e ∈ front, e.kind ≠ .presentFinal

/-! ### What configuration alone sets (R182) -/

/-- The values CONFIG_LANE, CONFIG_CASSETTE and CONFIG_BINS set and nothing else does, and the two straps. -/
structure SameConfiguration (s t : State) : Prop where
  straps    : t.lsv.station = s.lsv.station ∧ t.biu.slow = s.biu.slow
  bundle    : t.dsp.bundleLimit = s.dsp.bundleLimit
  take      : t.drw.takeTimeout = s.drw.takeTimeout
  deposit   : t.drw.depositTimeout = s.drw.depositTimeout
  wall      : t.pt.wallLimit = s.pt.wallLimit
  gate      : t.ntg.gateLength = s.ntg.gateLength
  imprint   : t.ink.energy = s.ink.energy ∧ t.ink.mirror = s.ink.mirror
  enables   : ∀ k, (t.alm.loops.get k).enabled = (s.alm.loops.get k).enabled
  bins      : t.dsp.rejectCap = s.dsp.rejectCap ∧ t.dsp.retractCap = s.dsp.retractCap ∧ t.pkt.capacity = s.pkt.capacity
  cassettes : ∀ k, (t.cas.get k).denomination = (s.cas.get k).denomination
                ∧ (t.cas.get k).nominal = (s.cas.get k).nominal ∧ (t.cas.get k).lowMark = (s.cas.get k).lowMark

end Sys2Proof.Machine
end

