-- ==== Sys2Proof/Certificates/Slice0/Obligations.lean ====
section
/-!
DEFINITION. The statements for the provers. Pulses, microseconds and sampled levels are operands (log 4, 5), a step whose
premise fails has no effect (log 1), and what a step enables is settled in the order of log 14. Commands first, in the
table's order of families; then the operations the chapters build on, the gauge and the mix; then the invariants every step
keeps and the whole-machine rules. A next state is written out over the state the step begins with (`begun s`, or `atCommand
s source` for a taken command), so that what is not named is unchanged.
-/

open Sys2Proof Sys2Proof.Machine

/-! ### The queue and the machine -/

/-- The command at the front of the queue is run on the state with the queue's rest. -/
def Obligations.StepRunsTheFront : Prop :=
  ∀ (c : Instr) (rest : List Instr) (s : State),
    step { s with pending := c :: rest } = exec c { s with pending := rest }

/-- Every command has a next state from every state, and none touches the queue of the commands that wait. -/
def Obligations.EveryCommandCompletes : Prop :=
  ∀ (c : Instr) (s : State), ∃ t, exec c s = .next t ∧ t.pending = s.pending

/-- On an empty queue (the model's choice, log 3): the first timer that has run out comes about as its own command; with none
run out, a millisecond passes for every timer and for every record's age, for the STATUS period only while the station is not
QUIET and the line not stuck, and nothing else changes. The timers that can be due, each at 0 and in force, or for another
station's PRESENT record an age of 1,000 ms, stand in one list in the model's order (log 3), and the first of them that is due
gives its command. -/
def Obligations.IdleStep : Prop :=
  ∀ s : State, s.pending = [] →
    (∀ c, dueExpiry s = some c → step s = exec c s) ∧
    (dueExpiry s = none → ∀ down : Option Nat → Option Nat, down = (fun timer => timer.map (· - 1)) →
      step s = .next { s with
        outputs := [],
        biu.quiet := down s.biu.quiet,
        pt.statusTimer := if s.biu.quiet = none ∧ s.biu.stuck = false then down s.pt.statusTimer else s.pt.statusTimer,
        pt.listenIn := down s.pt.listenIn,
        pt.peers := s.pt.peers.map (fun p => { p with age := min 2000 (p.age + 1), stale := down p.stale }),
        dsp.suspendTimer := down s.dsp.suspendTimer,
        drw.stroke := down s.drw.stroke, drw.load := down s.drw.load, drw.motion := down s.drw.motion,
        drw.obstruct := down s.drw.obstruct, drw.trayEmpty := down s.drw.trayEmpty, drw.take := down s.drw.take,
        drw.deposit := down s.drw.deposit, drw.sweep := down s.drw.sweep,
        pkt.gate := down s.pkt.gate, pkt.fairness := down s.pkt.fairness,
        alm.sirenTimer := down s.alm.sirenTimer, alm.sirenToggle := down s.alm.sirenToggle,
        lsv.serviceTimer := down s.lsv.serviceTimer }) ∧
    (∀ (due : Option Nat → Bool) (timers : List (Bool × Instr)), due = (fun timer => decide (timer = some 0)) →
      timers = [(due s.biu.quiet, .quietTimeout),
          (due s.pt.statusTimer && decide (s.biu.quiet = none) && !s.biu.stuck, .statusPeriod)]
        ++ (List.range 15).map (fun n => (decide (BitVec.ofNat 4 n ≠ s.lsv.station) && (peerAt s.pt.peers n).present
              && decide (1000 ≤ (peerAt s.pt.peers n).age), .peerAbsent (BitVec.ofNat 4 n)))
        ++ (List.range 15).map (fun n => (due (peerAt s.pt.peers n).stale, .staleTimeout (BitVec.ofNat 4 n)))
        ++ [(due s.pt.listenIn, .listenInEnd),
          (due s.dsp.suspendTimer && decide (s.dsp.state = .suspended), .suspendTimeout),
          (due s.drw.stroke && decide (s.drw.state = .extending) && decide (s.drw.phase = .load), .transferStrokeEnd s.lines),
          (due s.drw.load && decide (s.drw.state = .extending) && decide (s.drw.phase = .load), .returnLoadTimeout s.lines),
          (due s.drw.motion && decide (s.drw.state ≠ .closed) && decide (s.drw.state ≠ .jammed), .drawerMotionTimeout s.lines),
          (due s.drw.obstruct && decide (s.drw.state = .opened) && decide (s.drw.mode = .waiting), .obstructionWaitEnd),
          (due s.drw.trayEmpty, .trayEmptyTimeout),
          (due s.drw.take, .takeTimeout),
          (due s.drw.deposit, .depositTimeout),
          (due s.drw.sweep, .sweepEnd),
          (due s.pkt.gate && decide (s.pkt.chute = .launched), .gateTimeout),
          (due s.pkt.fairness, .fairnessWaitEnd),
          (due s.alm.sirenToggle, .sirenToggle),
          (due s.alm.sirenTimer, .sirenTimeout),
          (due s.lsv.serviceTimer && decide (s.lsv.lane = .service), .serviceTimeout)] →
      dueExpiry s = (timers.find? (fun t => t.1)).map (fun t => t.2))

/-- POWER_RESET: every block takes its reset values, from any state and for both straps, and the commands that wait go on waiting.
R18, R42, R45, R88, R108, R125, R142, R156, R171, R174, R181 and R182 give these values. The first levels of the sensors,
and the drawer's state until its switches have settled, are the model's choice and not stated here (log 7, 8). -/
def Obligations.PowerResetValues : Prop :=
  ∀ (station : Station) (slow : Bool) (s : State), ∃ t, exec (.powerReset station slow) s = .next t
    ∧ t.pending = s.pending ∧ t.outputs = []
    ∧ (t.lsv.lane = .starting ∧ t.lsv.station = station ∧ t.biu.slow = slow ∧ t.cmd.owner = none ∧ t.cmd.eventGap = false
        ∧ t.cmd.acked = none ∧ t.lsv.gotLane = false ∧ t.lsv.gotBins = false ∧ t.lsv.serviceTimer = none
        ∧ t.lsv.heldFault = false ∧ t.lsv.heldRestarts = [])
    ∧ (∀ k, (t.cas.get k).state = .unused ∧ (t.cas.get k).denomination = 0 ∧ (t.cas.get k).count = 0
        ∧ (t.cas.get k).loaded = 0 ∧ (t.cas.get k).lowMark = 0 ∧ (t.cas.get k).mispicks = 0
        ∧ (t.cas.get k).nominal = 120 ∧ (t.cas.get k).ref8L = 256 ∧ (t.cas.get k).ref8R = 256)
    ∧ (t.ntg.state = .idle ∧ t.ntg.cause = .none ∧ t.ntg.order = none ∧ t.ntg.records = [] ∧ t.ntg.c0L = 0 ∧ t.ntg.c0R = 0
        ∧ t.ntg.valid = false ∧ t.ntg.last = none ∧ t.ntg.diverter = .reject ∧ t.ntg.gateLength = 32)
    ∧ (t.dsp.state = .purging ∧ t.dsp.amount = 0 ∧ t.dsp.delivered = 0 ∧ t.dsp.paid = 0 ∧ t.dsp.inStacker = 0
        ∧ t.dsp.stackerCount = 0 ∧ t.dsp.leftover = 0 ∧ t.dsp.taken = 0 ∧ t.dsp.retracted = 0 ∧ t.dsp.rejected = 0
        ∧ t.dsp.rejectEvents = 0 ∧ (∀ k, t.dsp.picked.get k = 0 ∧ t.dsp.mixSlots.get k = false) ∧ t.dsp.bundle = 0
        ∧ t.dsp.reservation = .none ∧ t.dsp.cancelMark = false ∧ t.dsp.lockMark = false ∧ t.dsp.pendingEnd = none
        ∧ t.dsp.suspendTimer = none ∧ t.dsp.pickList = [] ∧ t.dsp.rejectCount = 0 ∧ t.dsp.rejectCap = 50
        ∧ t.dsp.retractCount = 0 ∧ t.dsp.retractCap = 50 ∧ t.dsp.overflow = false ∧ t.dsp.bundleLimit = 50)
    ∧ (t.drw.purpose = .none ∧ t.drw.pendingReq = none ∧ t.drw.blocked = false ∧ t.drw.reported = false
        ∧ t.drw.hold = false ∧ t.drw.obstructions = 0 ∧ t.drw.motion = none ∧ t.drw.take = none ∧ t.drw.deposit = none
        ∧ t.drw.trayEmpty = none ∧ t.drw.obstruct = none ∧ t.drw.sweep = none ∧ t.drw.stroke = none ∧ t.drw.load = none
        ∧ t.drw.takeTimeout = 30 ∧ t.drw.depositTimeout = 60 ∧ t.drw.settled = false)
    ∧ (t.ink.state = .idle ∧ t.ink.raster = Vector.replicate 768 0 ∧ t.ink.fieldPage = 8 ∧ t.ink.fieldCol = 0
        ∧ t.ink.mirror = false ∧ t.ink.energy = 0 ∧ t.ink.seqCounter = 1 ∧ t.ink.window = none
        ∧ t.ink.record.kind = .intake ∧ t.ink.record.outcome = none ∧ t.ink.record.seq = none ∧ t.ink.record.jam = .none)
    ∧ (t.pkt.pocket = [] ∧ t.pkt.chute = .none ∧ t.pkt.gate = none ∧ t.pkt.fairness = none ∧ t.pkt.capacity = 100)
    ∧ (∀ n, n < 15 → (peerAt t.pt.peers n).present = false ∧ (peerAt t.pt.peers n).age = 2000
        ∧ (peerAt t.pt.peers n).exposure = 0 ∧ (peerAt t.pt.peers n).announced = AlarmSet.empty
        ∧ (peerAt t.pt.peers n).holder = false ∧ (peerAt t.pt.peers n).stale = none ∧ (peerAt t.pt.peers n).lane = none
        ∧ (peerAt t.pt.peers n).dispense = none ∧ (peerAt t.pt.peers n).drawer = none)
    ∧ (t.pt.view = none ∧ t.pt.listenIn = none ∧ t.pt.wallLimit = 0 ∧ t.pt.quietEnded = false ∧ t.pt.stuckSeen = false
        ∧ t.pt.statusTimer = none)
    ∧ (∀ k, (t.alm.loops.get k).state = .normal ∧ (t.alm.loops.get k).enabled = true)
    ∧ (t.alm.latch = AlarmSet.empty ∧ t.alm.wall = AlarmSet.empty ∧ t.alm.serviceWindow = false ∧ t.alm.siren = false
        ∧ t.alm.sirenTimer = none ∧ t.alm.relay = false)
    ∧ (t.biu.wallQueue = [] ∧ t.biu.fifo = [] ∧ t.biu.attempt = none ∧ t.biu.quiet = none ∧ t.biu.voidCount = 0
        ∧ t.biu.alarmFlag = false ∧ t.biu.statusFlag = false)

/-- JOIN_BUS and DRAWER_SWITCHES_SETTLED: a lane strapped 1 to 12 enters AWAIT_CONFIG with its own record PRESENT and the STATUS
flag raised, any other strap stays MUTE in STARTING; the switches settle the drawer once. What the switches meet before they
settle, and that they settle once, is the model's choice (log 8). What switches that settle after a purge has begun do is log
50. -/
def Obligations.JoinAndSwitches : Prop :=
  ∀ s : State,
    (s.lsv.lane = .starting → isLane s.lsv.station = true →
      exec .joinBus s = .next (setPeer s.lsv.station (fun p => { p with present := true })
        { begun s with lsv.lane := .awaitConfig, biu.statusFlag := true })) ∧
    (s.lsv.lane = .starting → isLane s.lsv.station = false → exec .joinBus s = .next (begun s)) ∧
    (s.drw.settled = false →
      (∀ ext, exec (.drawerSwitchesSettled false ext) s = .next { begun s with
        lines.home := false, lines.ext := ext, drw.settled := true, drw.state := .opened, drw.mode := .standing }) ∧
      exec (.drawerSwitchesSettled true false) s = .next { begun s with
        lines.home := true, lines.ext := false, drw.settled := true, drw.state := .closed } ∧
      exec (.drawerSwitchesSettled true true) s = .next { begun s with
        lines.home := true, lines.ext := true, drw.settled := true, drw.state := .jammed, drw.jam := .switches }) ∧
    (s.drw.settled = true → ∀ home ext, exec (.drawerSwitchesSettled home ext) s = .next (begun s))

/-! ### The bus interface -/

/-- OFFER_AT_IDLE: what may start is offered in the order ALARM, wall queue, FIFO, STATUS, with the class, kind, destination
and payload of its frame and the CRC over them. A claim whose turn comes while a holder is recorded is withdrawn, the pocket
is back in NONE, and the choice goes on with the frame behind it, or with FIFO and STATUS. The twelve bytes of STATUS are
what the blocks hold at that moment. That the line's idle ends what a break had left (`broken`) is the model's (log 35). -/
def Obligations.OfferTakesTheFirstItem : Prop :=
  (∀ (s b : State) (queue : List WallItem),
    (s.maySend = false → exec .offerAtIdle s = .next { begun s with biu.broken := false }) ∧
    (s.maySend = true → s.biu.alarmFlag = true →
      exec .offerAtIdle s = .next { begun s with
        biu.broken := false, alm.latchChanged := false,
        biu.attempt := some (lineAttempt s .alarm 0 15 1 (be1 s.alm.latch.code)) }) ∧
    (s.maySend = true → s.biu.alarmFlag = false →
      queue = (if s.holderRecorded then s.biu.wallQueue.dropWhile (fun w => decide (w = .claim)) else s.biu.wallQueue) →
      b = { begun s with
        biu.broken := false, biu.wallQueue := queue,
        pkt.chute := if queue = s.biu.wallQueue then s.pkt.chute else .none } →
      (∀ a rest, queue = .reserve a :: rest → exec .offerAtIdle s = .next { b with
        biu.attempt := some (lineAttempt s (.wall (.reserve a)) 1 15 8 (be3 a)) }) ∧
      (∀ a rest, queue = .release a :: rest → exec .offerAtIdle s = .next { b with
        biu.attempt := some (lineAttempt s (.wall (.release a)) 1 15 9 (be3 a)) }) ∧
      (∀ rest, queue = .claim :: rest → exec .offerAtIdle s = .next { b with
        biu.attempt := some (lineAttempt s (.wall .claim) 1 15 10 []) }) ∧
      (∀ c rest, queue = .chuteRelease c :: rest → exec .offerAtIdle s = .next { b with
        biu.attempt := some (lineAttempt s (.wall (.chuteRelease c)) 1 15 11 (be1 c.toNat)) }) ∧
      (queue = [] →
        (∀ f rest, s.biu.fifo = .frame f :: rest → exec .offerAtIdle s = .next { b with
          biu.attempt := some (lineAttempt s (.fifo f) 3 f.dest f.kind f.payload) }) ∧
        ((∀ f rest, s.biu.fifo ≠ .frame f :: rest) →
          (s.biu.statusFlag = true → exec .offerAtIdle s = .next { b with
            biu.attempt := some (lineAttempt s .status 4 15 64 (statusPayload s)) }) ∧
          (s.biu.statusFlag = false → exec .offerAtIdle s = .next b))))) ∧
  (∀ (s : State) (p : List Byte), p = statusPayload s → s.ownExposure ≤ 16777215 → (∀ v, s.pt.view = some v → v ≤ 1000) →
    s.pkt.pocket.length ≤ 4 →
    p.length = 12
    ∧ field p 0 1 = s.lsv.lane.code * 16 + s.dsp.state.code ∧ field p 1 1 = s.drw.state.code * 32 + s.drw.purpose.code * 8
    ∧ field p 2 1 = s.alm.latch.code * 16
    ∧ (p.getD 3 0).getLsbD 7 = s.ownHolder ∧ (p.getD 3 0).getLsbD 6 = s.cmd.eventGap
    ∧ (p.getD 3 0).getLsbD 5 = s.listening ∧ (p.getD 3 0).getLsbD 4 = s.pt.view.isSome
    ∧ (p.getD 3 0).getLsbD 3 = s.drw.tray ∧ (p.getD 3 0).getLsbD 2 = s.pt.quietEnded
    ∧ (p.getD 3 0).getLsbD 1 = s.pt.stuckSeen ∧ (p.getD 3 0).getLsbD 0 = false
    ∧ field p 4 3 = s.ownExposure ∧ field p 7 2 = s.pt.view.getD 65535
    ∧ field p 9 1 = s.pkt.pocket.length * 16 + (s.cmd.owner.getD 15).toNat
    ∧ field p 10 2 = s.cas.one.state.code * 8192 + s.cas.two.state.code * 1024 + s.cas.three.state.code * 128
        + s.cas.four.state.code * 16)

/-- ATTEMPT_LOST: the item stays where it is and is offered again; a RESERVE whose dispense has an end reason recorded leaves
the queue, and the dispense ends without a RELEASE. FRAME_VOIDED, BUS_STUCK and FORM_ERROR_BREAK, for a bit error or a form
error inside the frame, with an attempt of this station's own: it ends VOID, and each kind of item is dealt with as its block
says: an ALARM and its flag stay, a FIFO frame is dropped, a STATUS waits for its period, a RELEASE is not sent again, a claim
is given up, a chute release is queued again at the newest place, and a RESERVE ends its dispense with BUS_FAULT, or with the
end reason recorded. Where a restart has waited for the RESERVE, its later acts follow on the dispense's end. A sender does not
object to its own frame; its break is counted, once for the frame, and the 16th void enters QUIET. What the frame's row does to
reservations is log 25, and how long a break's frame is remembered is log 35. -/
def Obligations.LostAndVoidedAttempts : Prop :=
  (∀ (s b : State) (a : Attempt), s.biu.attempt = some a →
     b = { begun s with biu.attempt := none, biu.lastOutcome := some .lost } →
     ((∀ n, a.item ≠ .wall (.reserve n)) → exec .attemptLost s = .next (settle b)) ∧
     (∀ n, a.item = .wall (.reserve n) → s.dsp.state = .reserving →
       (s.dsp.pendingEnd = none → exec .attemptLost s = .next (settle b)) ∧
       (∀ r e, s.dsp.pendingEnd = some r → e = dspEnd r (afterEnd r) (dropWall (.reserve s.dsp.amount) b) →
         (s.lsv.heldRestarts = [] → exec .attemptLost s = .next (settle e)) ∧
         (s.lsv.heldRestarts ≠ [] → exec .attemptLost s = .next (settle (restartTail e)))))) ∧
  (∀ (s b : State) (v : State → State) (a : Attempt), s.biu.attempt = some a →
     b = { dropReservations (begun s) with biu.attempt := none, biu.lastOutcome := some .void } →
     (a.item = .alarm ∧ v = id)
       ∨ (∃ f, a.item = .fifo f ∧ v = fun t => { t with biu.fifo := t.biu.fifo.erase (.frame f) })
       ∨ (a.item = .status ∧ v = fun t => { t with biu.statusFlag := false, pt.statusTimer := some 250 })
       ∨ (∃ n, a.item = .wall (.release n) ∧ v = fun t => { t with biu.wallQueue := t.biu.wallQueue.erase (.release n) })
       ∨ (a.item = .wall .claim ∧ s.pkt.chute = .claiming
           ∧ v = fun t => { t with biu.wallQueue := t.biu.wallQueue.erase .claim, pkt.chute := .none })
       ∨ (∃ c, a.item = .wall (.chuteRelease c) ∧ s.pkt.chute = .releasing ∧ v = fun t =>
           { t with biu.wallQueue := t.biu.wallQueue.erase (.chuteRelease c) ++ [.chuteRelease c] })
       ∨ (∃ n sent, a.item = .wall (.reserve n) ∧ s.dsp.state = .reserving
           ∧ sent = (fun t : State => { t with biu.wallQueue := t.biu.wallQueue.erase (.reserve n), dsp.reservation := .sent })
           ∧ ((s.dsp.pendingEnd = none ∧ s.lsv.heldRestarts = [] ∧ v = fun t => dspEnd .busFault .idle (sent t))
             ∨ (∃ r, s.dsp.pendingEnd = some r ∧ s.lsv.heldRestarts = [] ∧ v = fun t => dspEnd r (afterEnd r) (sent t))
             ∨ (∃ r, s.dsp.pendingEnd = some r ∧ s.lsv.heldRestarts ≠ []
                 ∧ v = fun t => restartTail (dspEnd r (afterEnd r) (sent t))))) →
     (s.joined = true → ∀ frame, (∀ f, frame = some f → ¬ FormErrorIn f ∨ ¬ MayAnswer s) →
       exec (.frameVoided frame) s = .next (settle { v b with biu.broken := false })) ∧
     (s.biu.stuck = false →
       exec .busStuck s = .next (settle (v { b with biu.stuck := true, biu.broken := false, pt.stuckSeen := true }))) ∧
     (∀ (c : Instr) (mark : Bool), MayAnswer s →
       ((c = .formErrorBreak .inFrame ∨ c = .formErrorBreak .bitError) ∧ mark = true)
         ∨ (∃ f, c = .frameVoided (some f) ∧ FormErrorIn f ∧ mark = false) →
       ∃ t, exec c s = .next t ∧ CountedVoid { v b with biu.broken := mark } t .lineBreak) ∧
     (s.joined = true → s.biu.quiet = none → s.biu.stuck = false → s.biu.broken = true →
       ∀ error, error = .inFrame ∨ error = .bitError → exec (.formErrorBreak error) s
         = .next (settle { v b with biu.broken := true, outputs := (v b).outputs ++ [.lineBreak] })))

/-- FRAME_VOIDED and FORM_ERROR_BREAK while nothing of this station's is in transmission: a frame whose CRC does not match is
objected to and counted, one whose form error shows in the row, a length above 24 among them, is broken and counted, and so is
every other break this station sends, but a frame counts once; a void another station made, and a frame met while QUIET or at a
stuck line, is not counted and nothing is driven in it but the ACK of a clean broadcast; the 16th enters QUIET with listen-in
stopped and a RESERVE still queued withdrawn. QUIET_TIMEOUT, BUS_STUCK, BUS_STUCK_RECOVERED and STATUS_PERIOD: QUIET ends with
the void count at 0, the flag "QUIET ended recently" and a listen-in of 600 ms; the stuck period is flagged once; the STATUS
flag rises when its period is over. How long a break's frame is remembered (`broken`) and that a row breaks a frame for the
error it shows are the model's (log 35). -/
def Obligations.VoidsQuietAndStuck : Prop :=
  (∀ (s : State) (f : RxFrame), s.joined = true → s.biu.attempt = none →
     exec (.frameVoided none) s = .next (settle (frameEnded s)) ∧
     (¬ MayAnswer s ∨ (¬ FormErrorIn f ∧ rxCrc f = f.crc ∧ f.dest ≠ 15) →
       exec (.frameVoided (some f)) s = .next (settle (frameEnded s))) ∧
     (MayAnswer s → ¬ FormErrorIn f → rxCrc f = f.crc → f.dest = 15 →
       exec (.frameVoided (some f)) s = .next (settle { frameEnded s with outputs := [.ack] })) ∧
     (∀ (c : Instr) (o : Output) (u : State),
       (c = .frameVoided (some f) ∧ Answers s f o ∧ u = frameEnded s)
         ∨ (c = .formErrorBreak .inFrame ∧ MayAnswer s ∧ o = .lineBreak ∧ u = { frameEnded s with biu.broken := true })
         ∨ (c = .formErrorBreak .onIdleLine ∧ s.biu.quiet = none ∧ s.biu.stuck = false ∧ o = .lineBreak
             ∧ u = { begun s with biu.broken := false }) →
       ∃ t, exec c s = .next t ∧ CountedVoid u t o) ∧
     (s.biu.quiet = none → s.biu.stuck = false →
       (s.biu.broken = true → exec (.formErrorBreak .inFrame) s
         = .next (settle { frameEnded s with biu.broken := true, outputs := [.lineBreak] })) ∧
       exec (.formErrorBreak .bitError) s = .next (begun s)) ∧
     (s.biu.quiet ≠ none ∨ s.biu.stuck = true → ∀ error, exec (.formErrorBreak error) s = .next (begun s))) ∧
  (∀ s : State,
     (s.joined = false → ∀ frame error,
       exec (.frameVoided frame) s = .next (begun s) ∧ exec (.formErrorBreak error) s = .next (begun s)) ∧
     (∀ q, s.biu.quiet = some q → exec .quietTimeout s = .next (settle { begun s with
       biu.quiet := none, biu.voidCount := 0, pt.quietEnded := true, pt.listenIn := some 600 })) ∧
     (s.biu.stuck = false → s.biu.attempt = none → exec .busStuck s = .next (settle { dropReservations (begun s) with
       biu.stuck := true, biu.broken := false, pt.stuckSeen := true })) ∧
     (s.biu.stuck = true → exec .busStuck s = .next (begun s)) ∧
     exec .busStuckRecovered s = .next { begun s with biu.stuck := false } ∧
     (∀ n, s.pt.statusTimer = some n → s.biu.quiet = none → s.biu.stuck = false →
       exec .statusPeriod s = .next { begun s with pt.statusTimer := none, biu.statusFlag := true }))

/-- OWN_ALARM_COMPLETED, OWN_STATUS_COMPLETED and OWN_ATTEMPT_COMPLETED: the outcome, the void count back to 0 and the own
record's age at 0; an ALARM's flag falls unless the latches changed since it was built; a STATUS waits 250 ms and clears the
flags it carried; a FIFO frame leaves; a RELEASE leaves with the own entry at 0. That the frame's end clears what a break had
left (`broken`) is the model's (log 35). -/
def Obligations.OwnFramesComplete : Prop :=
  ∀ (s b : State) (a : Attempt) (heard : Bool), s.biu.attempt = some a →
    b = setPeer s.lsv.station (fun p => { p with age := 0 }) { begun s with
      biu.attempt := none, biu.lastOutcome := some (if heard then .delivered else .unheard), biu.voidCount := 0,
      biu.broken := false } →
    (a.item = .alarm →
      exec (.ownAlarmCompleted heard) s = .next { b with biu.alarmFlag := s.alm.latchChanged, alm.latchChanged := false } ∧
      exec (.ownAttemptCompleted heard) s
        = .next (settle { b with biu.alarmFlag := s.alm.latchChanged, alm.latchChanged := false })) ∧
    (a.item = .status →
      exec (.ownStatusCompleted heard) s = .next { b with
        biu.statusFlag := false, pt.statusTimer := some 250,
        pt.quietEnded := s.pt.quietEnded && !(a.payload.getD 3 0).getLsbD 2,
        pt.stuckSeen := s.pt.stuckSeen && !(a.payload.getD 3 0).getLsbD 1 }) ∧
    (∀ f, a.item = .fifo f → exec (.ownAttemptCompleted heard) s
      = .next (settle { b with biu.fifo := s.biu.fifo.erase (.frame f) })) ∧
    (∀ n, a.item = .wall (.release n) → exec (.ownAttemptCompleted heard) s
      = .next (settle (setOwnExposure 0 { b with biu.wallQueue := s.biu.wallQueue.erase (.release n) })))

/-- OWN_RESERVE_COMPLETED: the own entry takes the amount at the completion and the sum of the fifteen entries is held against the
wall limit; a passed check asks the transport for a baseline, a failed one sets the entry back to 0 and ends the dispense with
WALL_LIMIT. With an end reason recorded the dispense ends with it, whatever the check found, and a restart that has waited goes
on with its later acts; what state each reason leaves the dispense engine in. -/
def Obligations.ReservationCheck : Prop :=
  (∀ (s b : State) (a : Attempt) (amount : Nat) (heard : Bool),
    s.biu.attempt = some a → a.item = .wall (.reserve amount) → s.dsp.state = .reserving →
    b = setOwnExposure amount { attemptCompleted heard (begun s) with
      biu.wallQueue := s.biu.wallQueue.erase (.reserve amount) } →
    (s.dsp.pendingEnd = none → s.lsv.heldRestarts = [] →
      ((s.pt.wallLimit = 0 ∨ exposureSum b.pt.peers ≤ s.pt.wallLimit) →
        (s.ntg.state = .idle → s.ntg.edge = false → exec (.ownReserveCompleted heard) s = .next (settle { b with
          dsp.reservation := .sent, dsp.state := .baseline, ntg.state := .baseline, ntg.valid := false, ntg.order := none,
          ntg.sinceStart := 0 })) ∧
        (s.ntg.state = .idle → s.ntg.edge = true → exec (.ownReserveCompleted heard) s
          = .next (settle (ntgJam .strayObject { b with dsp.reservation := .sent, dsp.state := .baseline }))) ∧
        (s.ntg.state ≠ .idle → exec (.ownReserveCompleted heard) s
          = .next (settle (dspEndByPurge .gaugeFault { b with dsp.reservation := .sent })))) ∧
      (s.pt.wallLimit ≠ 0 → s.pt.wallLimit < exposureSum b.pt.peers → exec (.ownReserveCompleted heard) s
        = .next (settle (dspEnd .wallLimit .idle { setOwnExposure 0 b with dsp.reservation := .sent })))) ∧
    (∀ r c e, s.dsp.pendingEnd = some r →
      ((s.pt.wallLimit = 0 ∨ exposureSum b.pt.peers ≤ s.pt.wallLimit) → c = b) →
      (s.pt.wallLimit ≠ 0 → s.pt.wallLimit < exposureSum b.pt.peers → c = setOwnExposure 0 b) →
      e = dspEnd r (afterEnd r) { c with dsp.reservation := .sent } →
      (s.lsv.heldRestarts = [] → exec (.ownReserveCompleted heard) s = .next (settle e)) ∧
      (s.lsv.heldRestarts ≠ [] → exec (.ownReserveCompleted heard) s = .next (settle (restartTail e))))) ∧
  (afterEnd .jam = .fault ∧ afterEnd .restart = .purging ∧ ∀ r, r ≠ .jam → r ≠ .restart → afterEnd r = .idle)

/-- CHUTE_CLAIM_RECEIVED and CHUTE_RELEASE_RECEIVED for the own frame in transmission, heard or unheard: the own station becomes
holder and launches, or releases unused when the launch is no longer possible, or takes no launch where another holder is
recorded; the completed release ends the holding, counts the envelope in the view and begins the fairness wait of 200 ms.
CHUTE_CLAIM_RECEIVED and CHUTE_RELEASE_RECEIVED from another lane: the first claimer while no holder is recorded becomes
holder with a stale timer of 10 s, a later one changes no holder, and the fairness wait ends; a release ends the sender's
holding, and one that captured adds an envelope to a known view; a frame in which this station finds an error is not in force
here, and ends as a voided frame where the station answers it (log 35). A claim is queued at the first moment at which every
condition of R115 holds, and one still queued is withdrawn when any but the no-holder condition fails; that a listen-in QUIET has
stopped is not in force is log 43. -/
def Obligations.ChuteFrames : Prop :=
  (∀ (s b : State) (a : Attempt) (frame : RxFrame) (heard : Bool), s.biu.attempt = some a → s.joined = true →
     isLane s.lsv.station = true → frame.source = s.lsv.station → b = attemptCompleted heard (begun s) →
     (a.item = .wall .claim → s.pkt.chute = .claiming →
       (s.holderRecorded = false →
         (s.launchOk = true → exec (.chuteClaimReceived frame heard) s
           = .next (settle { setPeer s.lsv.station (fun p => { p with holder := true, stale := none }) (dropWall .claim b) with
               pkt.chute := .launched, pkt.gate := some 8000, pkt.pocket := setOldest .launched s.pkt.pocket,
               outputs := [.launch] })) ∧
         (s.launchOk = false → exec (.chuteClaimReceived frame heard) s
           = .next (settle { setPeer s.lsv.station (fun p => { p with holder := true, stale := none }) (dropWall .claim b) with
               pkt.chute := .releasing, biu.wallQueue := s.biu.wallQueue.erase .claim ++ [.chuteRelease false] }))) ∧
       (s.holderRecorded = true → s.ownHolder = false → exec (.chuteClaimReceived frame heard) s
         = .next (settle { dropWall .claim b with pkt.chute := .none }))) ∧
     (∀ c, a.item = .wall (.chuteRelease c) → s.pkt.chute = .releasing → frame.payload = be1 c.toNat →
       exec (.chuteReleaseReceived frame heard) s
         = .next (settle { setPeer s.lsv.station (fun p => { p with holder := false, stale := none })
               (dropWall (.chuteRelease c) b) with
             pt.view := if c then s.pt.view.map (fun v => min 1000 (v + 1)) else s.pt.view,
             pkt.chute := .none, pkt.fairness := some 200 }))) ∧
  (∀ (s : State) (source : Station) (heard : Bool), s.joined = true → source ≠ s.lsv.station → isLane source = true →
     (s.holderRecorded = false → exec (.chuteClaimReceived (broadcast 1 source 10 []) heard) s = .next (settle
       { received source (fun p => { p with holder := true, stale := some 10000 }) s with pkt.fairness := none })) ∧
     (s.holderRecorded = true → exec (.chuteClaimReceived (broadcast 1 source 10 []) heard) s
       = .next (settle { received source id s with pkt.fairness := none })) ∧
     exec (.chuteReleaseReceived (broadcast 1 source 11 [0]) heard) s
       = .next (settle (received source (fun p => { p with holder := false, stale := none }) s)) ∧
     exec (.chuteReleaseReceived (broadcast 1 source 11 [1]) heard) s
       = .next (settle { received source (fun p => { p with holder := false, stale := none }) s with
           pt.view := s.pt.view.map (fun v => min 1000 (v + 1)) })) ∧
  (∀ (s : State) (f : RxFrame) (heard : Bool), f.source ≠ s.lsv.station →
     ErrorRow s f (.chuteClaimReceived f heard) settle ∧ ErrorRow s f (.chuteReleaseReceived f heard) settle) ∧
  (∀ s : State,
     (s.launchOk = true ↔ (∃ e rest, s.pkt.pocket = e :: rest ∧ e.state = .captureWait)
       ∧ (∃ v, s.pt.view = some v ∧ v < s.pkt.capacity) ∧ s.captureHold = false ∧ s.lsv.lane ≠ .purging
       ∧ s.listening = false ∧ s.ink.state ≠ .jammed) ∧
     (s.pkt.chute = .none →
       (s.launchOk = true → s.holderRecorded = false → s.pkt.fairness = none →
         settlePkt s = { s with pkt.chute := .claiming, biu.wallQueue := s.biu.wallQueue ++ [.claim] }) ∧
       (s.launchOk = false ∨ s.holderRecorded = true ∨ s.pkt.fairness ≠ none → settlePkt s = s)) ∧
     (s.pkt.chute = .claiming →
       (s.sending ≠ some .claim → s.launchOk = false →
         settlePkt s = { s with pkt.chute := .none, biu.wallQueue := s.biu.wallQueue.erase .claim }) ∧
       (s.sending = some .claim ∨ s.launchOk = true → settlePkt s = s)) ∧
     (s.pkt.chute = .launched ∨ s.pkt.chute = .releasing → settlePkt s = s))

/-- COMMAND_ACK: a clean command frame of a console to this lane is acknowledged exactly when the lane has joined, is not QUIET,
the line is not stuck, no break was sent in the frame, and the FIFO has the positions its answer needs; the positions are
reserved with the ACK that is driven. A header that shows a form error is answered with a break, as FORM_ERROR_BREAK is.
Otherwise nothing is driven. That reservations left over are dropped first is the model's choice (log 25), and so is how long a
break is remembered, and that the row breaks the frame for the error it shows (log 35). -/
def Obligations.CommandAckReserves : Prop :=
  ∀ (f : RxFrame) (s : State),
    (f.cls = 2 → f.dest = s.lsv.station → isConsole f.source = true → f.payload ≠ [] →
      rxCrc f = f.crc → ¬ FormErrorIn f → MayAnswer s →
      (f.kind ≠ 34 → (dropReservations s).biu.fifo.length ≤ 7 → exec (.commandAck f) s
        = .next { dropReservations (begun s) with
            cmd.acked := some { source := f.source, kind := f.kind, payload := f.payload }, outputs := [.ack],
            biu.fifo := (dropReservations s).biu.fifo ++ [.reserved .reply] }) ∧
      (f.kind = 34 → (dropReservations s).biu.fifo.length ≤ 6 → exec (.commandAck f) s
        = .next { dropReservations (begun s) with
            cmd.acked := some { source := f.source, kind := f.kind, payload := f.payload }, outputs := [.ack],
            biu.fifo := (dropReservations s).biu.fifo ++ [.reserved .record, .reserved .reply] }) ∧
      (f.kind = 34 → (dropReservations s).biu.fifo.length = 7 → exec (.commandAck f) s
        = .next (dropReservations (begun s))) ∧
      (8 ≤ (dropReservations s).biu.fifo.length → exec (.commandAck f) s = .next (dropReservations (begun s)))) ∧
    (MayAnswer s → FormErrorIn f → exec (.commandAck f) s = exec (.formErrorBreak .inFrame) s) ∧
    ((¬ FormErrorIn f ∧ (f.cls ≠ 2 ∨ f.dest ≠ s.lsv.station ∨ isConsole f.source = false ∨ f.payload = []
        ∨ rxCrc f ≠ f.crc)) ∨ ¬ MayAnswer s →
      exec (.commandAck f) s = .next (dropReservations (begun s)))

/-! ### Frames of other stations and the peer table -/

/-- PRESENCE_ONLY_FRAME, RESERVE_RECEIVED and RELEASE_RECEIVED: a clean broadcast in force from another station is acknowledged,
makes its record PRESENT with age 0 and clears the void count; a frame to another station does the same and draws no ACK from
this one; a lane's RESERVE sets its exposure entry to the amount carried, its RELEASE sets it to 0 whatever the amount. A frame
that carries the own number reaches no record, one in which this station finds an error is not in force here, and a lane still
STARTING hears nothing. How long a break is remembered (`broken`), and that a frame whose error the row shows ends as a voided
frame does, are the model's (log 35). -/
def Obligations.PresenceAndExposureFrames : Prop :=
  (∀ (s : State) (source : Station) (cls : BitVec 3) (kind : BitVec 7) (payload : List Byte), payload.length ≤ 24 →
    (s.joined = true → source ≠ s.lsv.station →
      exec (.presenceOnlyFrame (broadcast cls source kind payload)) s = .next (received source id s) ∧
      (isLane source = true → ∀ x y z : Byte,
        exec (.reserveReceived (broadcast 1 source 8 [x, y, z])) s
          = .next (received source (fun p => { p with exposure := beNat [x, y, z] }) s) ∧
        exec (.releaseReceived (broadcast 1 source 9 [x, y, z])) s
          = .next (received source (fun p => { p with exposure := 0 }) s)) ∧
      (isLane source = false ∨ payload.length ≠ 3 →
        exec (.reserveReceived (broadcast 1 source 8 payload)) s = .next (received source id s) ∧
        exec (.releaseReceived (broadcast 1 source 9 payload)) s = .next (received source id s))) ∧
    (s.joined = true → source = s.lsv.station →
      exec (.presenceOnlyFrame (broadcast cls source kind payload)) s = .next (heard s) ∧
      exec (.reserveReceived (broadcast 1 source 8 payload)) s = .next (heard s) ∧
      exec (.releaseReceived (broadcast 1 source 9 payload)) s = .next (heard s))) ∧
  (∀ (s : State) (f : RxFrame) (c : Instr), c = .presenceOnlyFrame f ∨ c = .reserveReceived f ∨ c = .releaseReceived f →
    (s.joined = true → rxCrc f = f.crc → ¬ FormErrorIn f → f.dest ≠ 15 →
      ∀ b, b = { begun s with biu.voidCount := 0, biu.broken := false } →
      (f.source ≠ s.lsv.station →
        exec c s = .next (setPeer f.source (fun p => { p with present := true, age := 0 }) b)) ∧
      (f.source = s.lsv.station → exec c s = .next b)) ∧
    ErrorRow s f c id ∧ (s.joined = false → exec c s = .next (begun s)))

/-- ALARM_RECEIVED and STATUS_RECEIVED: an ALARM or a STATUS in force from another lane or console sets its announced set, a
lane's STATUS its states and exposure entry as well; the holder flag a STATUS carries makes it holder with a stale timer of 10 s
while none is recorded, and a STATUS without it ends its holding; an ALARM or a STATUS of another length or with a zero bit set
is a frame for presence only. A lane's STATUS carries lane and dispense state in byte 0, drawer state and purpose in byte 1, the
announced set in byte 2, the flags in byte 3 and the exposure in bytes 4 to 6, and gives an unknown view its known count (one
above 1,000 is open: log 11). The wall alarm set is then formed again. A frame in which this station finds an error is not in
force here; that its row ends it as a voided frame, and clears what a break had left (`broken`), is the model's (log 35). -/
def Obligations.AlarmAndStatusFrames : Prop :=
  ∀ (s : State) (source : Station) (frame : List Byte → RxFrame), s.joined = true → source ≠ s.lsv.station →
    frame = broadcast 4 source 64 →
    (isLane source = true ∨ isConsole source = true → ∀ b : Byte, b &&& 0xF0 = 0 →
      exec (.alarmReceived (broadcast 0 source 1 [b])) s
        = .next (settle (formWall (received source (fun p => { p with announced := AlarmSet.ofCode b.toNat }) s)))) ∧
    (∀ payload, readableStatus payload = true →
      (isConsole source = true → exec (.statusReceived (frame payload)) s
        = .next (settle (formWall (received source (fun p => { p with announced := statusAlarms payload }) s)))) ∧
      (∀ (holder : Peer → Peer) (view : Option Nat), isLane source = true →
        (statusHolds payload = true → s.holderRecorded = false → holder = fun p => { p with holder := true, stale := some 10000 }) →
        (statusHolds payload = true → s.holderRecorded = true → holder = id) →
        (statusHolds payload = false → (peerAt s.pt.peers source.toNat).holder = true →
          holder = fun p => { p with holder := false, stale := none }) →
        (statusHolds payload = false → (peerAt s.pt.peers source.toNat).holder = false → holder = id) →
        (s.pt.view ≠ none ∨ (payload.getD 3 0).getLsbD 4 = false → view = s.pt.view) →
        (s.pt.view = none → (payload.getD 3 0).getLsbD 4 = true →
          view = some (if field payload 7 2 ≤ 1000 then field payload 7 2 else min (Config.viewOutOfRange (field payload 7 2)) 1000)) →
        exec (.statusReceived (frame payload)) s = .next (settle (formWall
          { received source (fun p => holder (takeStatus payload p)) s with pt.view := view })))) ∧
    (∀ (payload : List Byte) (bit : Nat → Nat → Bool), bit = (fun byte n => (payload.getD byte 0).getLsbD n) →
      (readableStatus payload = true ↔ payload.length = 12
        ∧ bit 1 2 = false ∧ bit 1 1 = false ∧ bit 1 0 = false ∧ bit 2 3 = false ∧ bit 2 2 = false ∧ bit 2 1 = false
        ∧ bit 2 0 = false ∧ bit 3 0 = false ∧ bit 11 3 = false ∧ bit 11 2 = false ∧ bit 11 1 = false ∧ bit 11 0 = false) ∧
      statusHolds payload = bit 3 7 ∧
      statusAlarms payload = { duress := bit 2 7, tamper := bit 2 6, cabinet := bit 2 5, bin := bit 2 4 } ∧
      (∀ p : Peer, takeStatus payload p = { p with
        lane := some ((payload.getD 0 0).toNat / 16), dispense := some ((payload.getD 0 0).toNat % 16),
        drawer := some ((payload.getD 1 0).toNat / 32, (payload.getD 1 0).toNat / 8 % 4),
        announced := { duress := bit 2 7, tamper := bit 2 6, cabinet := bit 2 5, bin := bit 2 4 },
        exposure := field payload 4 3 }) ∧
      (payload.length = 12 → field payload 4 3
        = (payload.getD 4 0).toNat * 65536 + (payload.getD 5 0).toNat * 256 + (payload.getD 6 0).toNat)) ∧
    (∀ b : Byte, b &&& 0xF0 = 0 → AlarmSet.ofCode b.toNat = {
      duress := b.getLsbD 3, tamper := b.getLsbD 2, cabinet := b.getLsbD 1, bin := b.getLsbD 0 }) ∧
    (∀ payload : List Byte, payload.length ≤ 24 → payload.length ≠ 1 ∨ payload.getD 0 0 &&& 0xF0 ≠ 0 →
      exec (.alarmReceived (broadcast 0 source 1 payload)) s = .next (settle (received source id s))) ∧
    (∀ payload, readableStatus payload = false → payload.length ≤ 24 →
      exec (.statusReceived (frame payload)) s = .next (settle (received source id s))) ∧
    (∀ f : RxFrame, ErrorRow s f (.alarmReceived f) settle ∧ ErrorRow s f (.statusReceived f) settle)

/-- BIN_EMPTIED_RECEIVED and FORGET_RECEIVED from a console, PEER_ABSENT, STALE_TIMEOUT and LISTEN_IN_END: the view becomes 0;
an ABSENT record other than the own is forgotten and the wall alarm set formed again, a PRESENT or the own record is not; an
age of 1,000 ms makes a record ABSENT; a stale holder is dropped; the end of listen-in takes a LISTENING lane to CLOSED. A
frame in which this station finds an error is not in force here; that its row ends it as a voided frame, and clears what a break
had left (`broken`), is the model's (log 35). An expiry holds whenever its timer runs (log 1). -/
def Obligations.BinForgetAndPeerTimers : Prop :=
  ∀ s : State,
    (s.joined = true → ∀ source, source ≠ s.lsv.station → isConsole source = true →
      exec (.binEmptiedReceived (broadcast 1 source 12 [])) s
        = .next (settle { received source id s with pt.view := some 0 }) ∧
      (∀ (b : Byte) (clear : Peer → Peer), b.toNat < 15 → b.toNat ≠ s.lsv.station.toNat → b.toNat ≠ source.toNat →
        clear = (fun p => { p with exposure := 0, announced := AlarmSet.empty, holder := false, stale := none }) →
        ((peerAt s.pt.peers b.toNat).present = false → exec (.forgetReceived (broadcast 1 source 13 [b])) s
          = .next (settle (formWall
              { received source id s with pt.peers := modifyPeer b.toNat clear (received source id s).pt.peers }))) ∧
        ((peerAt s.pt.peers b.toNat).present = true →
          exec (.forgetReceived (broadcast 1 source 13 [b])) s = .next (settle (received source id s)))) ∧
      (∀ b : Byte, b.toNat = s.lsv.station.toNat →
        exec (.forgetReceived (broadcast 1 source 13 [b])) s = .next (settle (received source id s)))) ∧
    (∀ f : RxFrame, ErrorRow s f (.binEmptiedReceived f) settle ∧ ErrorRow s f (.forgetReceived f) settle) ∧
    (∀ n : Station, n ≠ s.lsv.station → (peerAt s.pt.peers n.toNat).present = true →
      exec (.peerAbsent n) s
        = .next (setPeer n (fun p => { p with present := false, age := max 1000 p.age }) (begun s))) ∧
    (∀ (n : Station) (ms : Nat), (peerAt s.pt.peers n.toNat).stale = some ms →
      exec (.staleTimeout n) s = .next (settle (setPeer n (fun p => { p with holder := false, stale := none }) (begun s)))) ∧
    (s.listening = true →
      (s.lsv.lane = .listening →
        exec .listenInEnd s = .next (settle { begun s with pt.listenIn := none, lsv.lane := .closed })) ∧
      (s.lsv.lane ≠ .listening → exec .listenInEnd s = .next (settle { begun s with pt.listenIn := none })))

/-! ### Commands -/

/-- Every console command whose ACK was not driven here only counts for its source's presence, and does nothing while the lane
is STARTING; one that was taken with a kind or a length outside the table, BAD_COMMAND among them, is answered BAD_PARAM and
changes nothing else but the position held for a LANE_RECORD. That a command must match the frame acknowledged here is the
model's choice (log 25). -/
def Obligations.UntakenAndBadCommands : Prop :=
  ∀ (c : Instr) (s : State) (source : Station) (kind : BitVec 7) (payload : List Byte),
    consoleCommand c = some (source, kind, payload) →
    ((∀ so k p, c = .badCommand so k p → lengthAllowed k p.length = false) → s.joined = true →
      s.cmd.acked ≠ some { source := source, kind := kind, payload := payload } →
      exec c s = .next (hear source (begun s))) ∧
    (s.joined = false → exec c s = .next (begun s)) ∧
    (∀ tag rest, payload = tag :: rest → Taken s source kind payload → lengthAllowed kind payload.length = false →
      exec c s = .next (replied source tag kind .badParam []
        { atCommand s source with biu.fifo := s.biu.fifo.erase (.reserved .record) }))

/-- LANE_OPEN and LANE_CLOSE: a CLOSED lane opens to any console, which becomes its owner; a lane in another state refuses the
owner check first and the state after; an OPEN lane closes for its owner once the dispense engine is IDLE and the drawer
serves nothing. SERVICE_BEGIN, SERVICE_END and SERVICE_TIMEOUT: a CLOSED lane goes to SERVICE with the window open for 30
minutes; a service visit that ends closes the window, on which an enabled cabinet loop that is not NORMAL latches CABINET, with
all that a new latch brings, and leaves the lane CLOSED, or in FAULT where a report was held. -/
def Obligations.LaneOpenCloseAndService : Prop :=
  (∀ (s : State) (source : Station) (tag : Byte),
     (Taken s source 16 [tag] →
       (s.lsv.lane = .closed → exec (.laneOpen source [tag]) s = .next (replied source tag 16 .ok []
         { atCommand s source with lsv.lane := .opened, cmd.owner := some source })) ∧
       (s.lsv.lane ≠ .closed → OwnerPasses s source →
         exec (.laneOpen source [tag]) s = .next (replied source tag 16 .badState [] (atCommand s source))) ∧
       (s.lsv.lane ≠ .closed → ¬ OwnerPasses s source →
         exec (.laneOpen source [tag]) s = .next (replied source tag 16 .notOwner [] (atCommand s source)))) ∧
     (Taken s source 17 [tag] →
       (OpenTo s source → s.dsp.state = .idle → s.drw.purpose = .none →
         exec (.laneClose source [tag]) s = .next (replied source tag 17 .ok []
           { atCommand s source with lsv.lane := .closed, cmd.owner := none })) ∧
       (OpenTo s source → s.dsp.state ≠ .idle ∨ s.drw.purpose ≠ .none →
         exec (.laneClose source [tag]) s = .next (replied source tag 17 .busy [] (atCommand s source))) ∧
       (s.lsv.lane = .opened → ¬ OwnerPasses s source →
         exec (.laneClose source [tag]) s = .next (replied source tag 17 .notOwner [] (atCommand s source))) ∧
       (s.lsv.lane = .service →
         exec (.laneClose source [tag]) s = .next (replied source tag 17 .service [] (atCommand s source))) ∧
       (s.lsv.lane ≠ .service → s.lsv.lane ≠ .opened →
         exec (.laneClose source [tag]) s = .next (replied source tag 17 .laneClosed [] (atCommand s source))))) ∧
  (∀ (s : State) (source : Station) (tag : Byte),
     (Taken s source 30 [tag] →
       (s.lsv.lane = .closed → exec (.serviceBegin source [tag]) s = .next (replied source tag 30 .ok []
         { atCommand s source with lsv.lane := .service, lsv.serviceTimer := some 1800000, alm.serviceWindow := true })) ∧
       (s.lsv.lane ≠ .closed → exec (.serviceBegin source [tag]) s
         = .next (replied source tag 30 .badState [] (atCommand s source)))) ∧
     (∀ b w left : State, s.lsv.lane = .service → s.alm.serviceWindow = true →
       w = { b with lsv.serviceTimer := none, alm.serviceWindow := false } →
       (s.alm.loops.three.enabled = false ∨ s.alm.loops.three.state = .normal ∨ s.alm.latch.cabinet = true → left = w) →
       (s.alm.loops.three.enabled = true → s.alm.loops.three.state ≠ .normal → s.alm.latch.cabinet = false →
         left = { formWall { w with alm.latch.cabinet := true, alm.latchChanged := true, biu.alarmFlag := true } with
           alm.siren := true, alm.sirenTimer := some 180000, alm.sirenOn := true, alm.sirenToggle := some 250 }) →
       (Taken s source 31 [tag] → b = atCommand s source → exec (.serviceEnd source [tag]) s
         = .next (replied source tag 31 .ok [] (settle { left with
             lsv.lane := if s.lsv.heldFault then .fault else .closed, lsv.heldFault := false }))) ∧
       (s.lsv.serviceTimer ≠ none → b = begun s → exec .serviceTimeout s = .next (settle { left with
         lsv.lane := if s.lsv.heldFault then .fault else .closed, lsv.heldFault := false }))) ∧
     (Taken s source 31 [tag] → s.lsv.lane ≠ .service →
       exec (.serviceEnd source [tag]) s = .next (replied source tag 31 .badState [] (atCommand s source))))

/-- DISPENSE and DISPENSE_MIX are refused in the order of R46's table, and a refusal changes nothing but its answer. -/
def Obligations.DispenseRefusalsInOrder : Prop :=
  ∀ (s : State) (source : Station) (kind : BitVec 7) (tag a b c d : Byte) (i : Instr),
    (kind = 18 ∧ i = .dispense source [tag, a, b, c, d]) ∨ (kind = 19 ∧ i = .dispenseMix source [tag, a, b, c, d]) →
    Taken s source kind [tag, a, b, c, d] →
    (s.lsv.lane = .service → exec i s = .next (replied source tag kind .service [] (atCommand s source))) ∧
    (s.lsv.lane ≠ .service → s.lsv.lane ≠ .opened →
      exec i s = .next (replied source tag kind .laneClosed [] (atCommand s source))) ∧
    (s.lsv.lane = .opened → ¬ OwnerPasses s source →
      exec i s = .next (replied source tag kind .notOwner [] (atCommand s source))) ∧
    (OpenTo s source →
      (s.silent = true → exec i s = .next (replied source tag kind .notReady [] (atCommand s source))) ∧
      (s.silent = false → s.lockdown = true →
        exec i s = .next (replied source tag kind .lockdown [] (atCommand s source))) ∧
      (s.silent = false → s.lockdown = false → s.dsp.state ≠ .idle ∨ s.listening = true →
        exec i s = .next (replied source tag kind .busy [] (atCommand s source))) ∧
      (s.silent = false → s.lockdown = false → s.dsp.state = .idle → s.listening = false →
        (s.dsp.rejectCap - s.dsp.rejectCount < 12 + s.dsp.bundleLimit →
          exec i s = .next (replied source tag kind .rejectBinFull [] (atCommand s source))) ∧
        (12 + s.dsp.bundleLimit ≤ s.dsp.rejectCap - s.dsp.rejectCount →
          s.dsp.retractCap - s.dsp.retractCount < s.dsp.bundleLimit →
          exec i s = .next (replied source tag kind .retractBinFull [] (atCommand s source)))))

/-- DISPENSE and DISPENSE_MIX once the start checks have passed: an amount out of range or a mix that cannot be made is refused;
else the dispense record is set afresh, the pick list built from the mix, the RESERVE queued, and the four counts answered. The
mix order puts the higher denomination first and among equal ones the lower slot; the pick list fills bundles of B notes in that
order. The byte widths of the reply details are the model's (log 44). -/
def Obligations.DispenseAccepted : Prop :=
  (∀ (s : State) (source : Station) (tag a b c d : Byte), OpenTo s source → MayDispense s →
    (Taken s source 18 [tag, a, b, c, d] →
      (beNat [a, b, c, d] = 0 ∨ 16777215 < beNat [a, b, c, d] →
        exec (.dispense source [tag, a, b, c, d]) s = .next (replied source tag 18 .badParam [] (atCommand s source))) ∧
      (1 ≤ beNat [a, b, c, d] → beNat [a, b, c, d] ≤ 16777215 →
        (findMix s.cas (beNat [a, b, c, d]) (4 * s.dsp.bundleLimit) = none →
          exec (.dispense source [tag, a, b, c, d]) s
            = .next (replied source tag 18 .notMakeable [] (atCommand s source))) ∧
        (∀ mix, findMix s.cas (beNat [a, b, c, d]) (4 * s.dsp.bundleLimit) = some mix →
          exec (.dispense source [tag, a, b, c, d]) s = .next (replied source tag 18 .ok
            (be1 (mix.countOf .one) ++ be1 (mix.countOf .two) ++ be1 (mix.countOf .three) ++ be1 (mix.countOf .four))
            { atCommand s source with
              biu.wallQueue := s.biu.wallQueue ++ [.reserve (beNat [a, b, c, d])],
              dsp := { s.dsp with
                state := .reserving, amount := beNat [a, b, c, d], delivered := 0, paid := 0, inStacker := 0,
                stackerCount := 0, taken := 0, retracted := 0, rejected := 0, rejectEvents := 0,
                picked := Four.replicate 0, mixSlots := mix.slots, bundle := 1, reservation := .queued,
                cancelMark := false, lockMark := false, pendingEnd := none, suspendTimer := none,
                pickList := buildList s.dsp.bundleLimit s.dsp.bundleLimit mix, dispensing := true,
                withdrawPending := false } })))) ∧
    (Taken s source 19 [tag, a, b, c, d] → ∀ n : Four Nat, n = ⟨a.toNat, b.toNat, c.toNat, d.toNat⟩ →
      (n.toList.sum = 0 ∨ (∃ k, 0 < n.get k ∧ (s.cas.get k).state.eligible = false) ∨ 4 * s.dsp.bundleLimit < n.toList.sum →
        exec (.dispenseMix source [tag, a, b, c, d]) s = .next (replied source tag 19 .badParam [] (atCommand s source))) ∧
      (0 < n.toList.sum → (∀ k, 0 < n.get k → (s.cas.get k).state.eligible = true) → n.toList.sum ≤ 4 * s.dsp.bundleLimit →
        ((∃ k, (s.cas.get k).count < n.get k) → exec (.dispenseMix source [tag, a, b, c, d]) s
          = .next (replied source tag 19 .notMakeable [] (atCommand s source))) ∧
        ((∀ k, n.get k ≤ (s.cas.get k).count) → ∀ amount,
          amount = (Slot.all.map (fun k => n.get k * (s.cas.get k).denomination)).sum →
          exec (.dispenseMix source [tag, a, b, c, d]) s = .next (replied source tag 19 .ok [a, b, c, d]
            { atCommand s source with
              biu.wallQueue := s.biu.wallQueue ++ [.reserve amount],
              dsp := { s.dsp with
                state := .reserving, amount := amount, delivered := 0, paid := 0, inStacker := 0,
                stackerCount := 0, taken := 0, retracted := 0, rejected := 0, rejectEvents := 0,
                picked := Four.replicate 0, mixSlots := ⟨0 < n.one, 0 < n.two, 0 < n.three, 0 < n.four⟩, bundle := 1,
                reservation := .queued, cancelMark := false, lockMark := false, pendingEnd := none,
                suspendTimer := none, pickList := buildList s.dsp.bundleLimit s.dsp.bundleLimit (askedMix s.cas n),
                dispensing := true, withdrawPending := false } }))))) ∧
  (∀ (cas : Four Cassette) (slots : List Slot), slots.Nodup → (mixOrder cas slots).Perm slots
    ∧ (mixOrder cas slots).Pairwise (fun j k => (cas.get k).denomination < (cas.get j).denomination
        ∨ ((cas.get j).denomination = (cas.get k).denomination ∧ j.number < k.number))) ∧
  (∀ (limit held : Nat) (mix : Mix), 1 ≤ limit → held ≤ limit → (mix.map (fun p => p.1)).Nodup →
    ListOf limit held mix (buildList limit (limit - held) mix))

/-- CONTINUE and CANCEL, each refused first where the lane is not OPEN or the sender not its owner: a suspended dispense gets a
new mix of what remains, whose list replaces the old one, or NOT_MAKEABLE; a cancel ends a dispense by the way of its state,
marks one that is presenting and orders its drawer home, and is refused where no dispense runs. The byte widths of the reply
details are the model's (log 44). -/
def Obligations.ContinueAndCancel : Prop :=
  (∀ (s : State) (source : Station) (tag : Byte),
    (Taken s source 20 [tag] → RefusedUnlessOpen s source tag 20 (.continueDispense source [tag])) ∧
    (Taken s source 21 [tag] → RefusedUnlessOpen s source tag 21 (.cancel source [tag]))) ∧
  (∀ (s : State) (source : Station) (tag : Byte), OpenTo s source →
    (Taken s source 20 [tag] →
      (s.silent = true → exec (.continueDispense source [tag]) s
        = .next (replied source tag 20 .notReady [] (atCommand s source))) ∧
      (s.silent = false → s.dsp.state ≠ .suspended → exec (.continueDispense source [tag]) s
        = .next (replied source tag 20 .badState [] (atCommand s source))) ∧
      (s.silent = false → s.dsp.state = .suspended →
        ∀ found, found = findMix s.cas (s.dsp.amount - s.dsp.delivered)
            (4 * s.dsp.bundleLimit - (s.dsp.taken + s.dsp.stackerCount)) →
        (found = none → exec (.continueDispense source [tag]) s
          = .next (replied source tag 20 .notMakeable [] (settle (atCommand s source)))) ∧
        (∀ mix, found = some mix → exec (.continueDispense source [tag]) s
          = .next (replied source tag 20 .ok mix.detail (settle (dspActivate { atCommand s source with
              dsp.pickList := buildList s.dsp.bundleLimit (s.dsp.bundleLimit - s.dsp.stackerCount) mix,
              dsp.mixSlots := ⟨s.dsp.mixSlots.one || mix.slots.one, s.dsp.mixSlots.two || mix.slots.two,
                s.dsp.mixSlots.three || mix.slots.three, s.dsp.mixSlots.four || mix.slots.four⟩,
              dsp.suspendTimer := none, dsp.state := .picking })))))) ∧
    (Taken s source 21 [tag] →
      (s.dsp.state = .reserving → s.reserveSending = false → exec (.cancel source [tag]) s
        = .next (replied source tag 21 .ok [] (settle
            (dspEnd .cancelled .idle (dropWall (.reserve s.dsp.amount) (atCommand s source)))))) ∧
      (s.dsp.state = .reserving → s.reserveSending = true → s.dsp.pendingEnd = none → exec (.cancel source [tag]) s
        = .next (replied source tag 21 .ok [] (settle { atCommand s source with dsp.pendingEnd := some .cancelled }))) ∧
      (s.dsp.state = .baseline ∨ s.dsp.state = .picking ∨ s.dsp.state = .suspended → exec (.cancel source [tag]) s
        = .next (replied source tag 21 .ok [] (settle (dspEndByPurge .cancelled (atCommand s source))))) ∧
      (s.dsp.state = .stacked → exec (.cancel source [tag]) s
        = .next (replied source tag 21 .ok [] (settle (dspEndByPurge .cancelled
            { atCommand s source with drw.pendingReq := none, drw.blocked := false })))) ∧
      (s.dsp.state = .presenting → s.drw.purpose = .notes → exec (.cancel source [tag]) s
        = .next (replied source tag 21 .ok [] (settle
            { atCommand s source with dsp.cancelMark := true, drw := retractOrder s.drw }))) ∧
      (s.dsp.state = .presenting → s.drw.purpose ≠ .notes → exec (.cancel source [tag]) s
        = .next (replied source tag 21 .ok [] (settle { atCommand s source with dsp.cancelMark := true }))) ∧
      (s.dsp.state = .idle ∨ s.dsp.state = .purging ∨ s.dsp.state = .fault → exec (.cancel source [tag]) s
        = .next (replied source tag 21 .badState [] (settle (atCommand s source))))))

/-- DRAWER_OPEN and DRAWER_CLOSE: a free drawer is taken for a deposit and travels out at once; the refusals come in R75's
order; a close command is a retract order in every drawer state but CLOSED and JAMMED, whatever the drawer serves, and is not
refused for an alarm. A retract order acts by the drawer's state. A pending notes request is taken once the drawer is free with
an empty tray, and an occupied tray blocks it, once reported. That an edge pressed already when a retraction begins is no
obstruction is log 42. -/
def Obligations.DrawerCommands : Prop :=
  (∀ (s : State) (source : Station) (tag : Byte),
    (Taken s source 22 [tag] → RefusedUnlessOpen s source tag 22 (.drawerOpen source [tag]) ∧ (OpenTo s source →
      (s.silent = true → exec (.drawerOpen source [tag]) s
        = .next (replied source tag 22 .notReady [] (atCommand s source))) ∧
      (s.silent = false → s.lockdown = true → exec (.drawerOpen source [tag]) s
        = .next (replied source tag 22 .lockdown [] (atCommand s source))) ∧
      (s.silent = false → s.lockdown = false → s.drawerFree = false ∨ s.drw.pendingReq ≠ none →
        exec (.drawerOpen source [tag]) s = .next (replied source tag 22 .drawerBusy [] (atCommand s source))) ∧
      (s.silent = false → s.lockdown = false → s.drawerFree = true → s.drw.pendingReq = none →
        exec (.drawerOpen source [tag]) s = .next (replied source tag 22 .ok [] { atCommand s source with
          drw := { s.drw with
            state := .extending, purpose := .deposit, phase := .travel, reported := false, hold := false,
            reachedOpen := false, mode := .standing, trayEmpty := none, motion := some 4000 },
          ink.state := if s.ink.state = .waiting then .idle else s.ink.state })))) ∧
    (Taken s source 23 [tag] → RefusedUnlessOpen s source tag 23 (.drawerClose source [tag]) ∧ (OpenTo s source →
      (s.drw.state = .closed ∨ s.drw.state = .jammed → exec (.drawerClose source [tag]) s
        = .next (replied source tag 23 .badState [] (atCommand s source))) ∧
      (s.drw.state ≠ .closed → s.drw.state ≠ .jammed → exec (.drawerClose source [tag]) s
        = .next (replied source tag 23 .ok [] { atCommand s source with drw := retractOrder s.drw }))))) ∧
  (∀ d home : Drw, home = { d with
      obstructions := 0, state := .retracting, mode := .standing, motion := some 4000, take := none, deposit := none,
      obstruct := none, retractNext := false } →
    (d.state = .extending → d.phase = .load → retractOrder d = { d with obstructions := 0, hold := true }) ∧
    (d.state = .extending → d.phase = .travel → retractOrder d = home) ∧
    (d.state = .opened → d.mode = .standing → retractOrder d = home) ∧
    (d.state = .opened → d.mode = .waiting ∨ d.mode = .edgeWait →
      (d.safe = false → retractOrder d = home) ∧
      (d.safe = true → retractOrder d = { d with obstructions := 0, mode := .edgeWait, obstruct := none })) ∧
    (d.state = .opened → d.mode = .backingOff → retractOrder d = { d with obstructions := 0, retractNext := true }) ∧
    (d.state = .retracting → retractOrder d = { d with obstructions := 0 }) ∧
    (d.state = .closed ∨ d.state = .jammed → retractOrder d = d)) ∧
  (∀ s : State,
    (s.drawerFree = true ↔ s.drw.state = .closed ∧ s.drw.purpose = .none ∧ s.drw.sweep = none ∧ s.ink.state.busy = false
      ∧ s.lockdown = false) ∧
    (s.drw.pendingReq = none ∨ s.drawerFree = false ∨ (s.drw.tray = true ∧ s.drw.blocked = true) → settleDrw s = s) ∧
    (∀ req, s.drw.pendingReq = some req → s.drawerFree = true →
      (s.drw.tray = true → s.drw.blocked = false →
        settleDrw s = queueEvent 55 (be1 0 ++ be3 0) { s with drw.blocked := true }) ∧
      (s.drw.tray = false → settleDrw s = { s with
        drw := { s.drw with
          state := .extending, purpose := .notes, phase := .load, reported := false, hold := false, reachedOpen := false,
          mode := .standing, trayEmpty := none, motion := none, pendingReq := none, blocked := false, served := some req,
          stroke := some 1000 },
        ink.state := if s.ink.state = .waiting then .idle else s.ink.state,
        dsp.state := if s.dsp.state = .stacked then .presenting else s.dsp.state })))

/-- ENVELOPE_CAPTURE and ENVELOPE_RETURN: the refusals come in the order of R114's and R111's tables. A capture marks the oldest
record, or with number 0 every IN_POCKET record, CAPTURE_WAIT and answers how many it marked and the newest of them; a return
marks the oldest RETURNING, takes the drawer's load phase and starts the eject. The byte widths of the reply details are the
model's (log 44). -/
def Obligations.EnvelopeCommands : Prop :=
  (∀ (s : State) (source : Station) (tag x y z : Byte) (seq : Nat) (refused : Code → State), seq = beNat [x, y, z] →
    Taken s source 24 [tag, x, y, z] →
    refused = (fun code => replied source tag 24 code [] (atCommand s source)) →
    (s.lsv.lane = .service → exec (.envelopeCapture source [tag, x, y, z]) s = .next (refused .service)) ∧
    (s.lsv.lane ≠ .service → s.lsv.lane ≠ .opened → s.lsv.lane ≠ .fault →
      exec (.envelopeCapture source [tag, x, y, z]) s = .next (refused .laneClosed)) ∧
    (s.lsv.lane = .opened ∨ s.lsv.lane = .fault →
      (¬ OwnerPasses s source → exec (.envelopeCapture source [tag, x, y, z]) s = .next (refused .notOwner)) ∧
      (OwnerPasses s source →
        (s.pkt.pocket = [] → exec (.envelopeCapture source [tag, x, y, z]) s = .next (refused .pocketEmpty)) ∧
        (∀ e rest, s.pkt.pocket = e :: rest →
          (seq ≠ 0 → (∀ r ∈ s.pkt.pocket, r.seq ≠ seq) →
            exec (.envelopeCapture source [tag, x, y, z]) s = .next (refused .noSuchEnvelope)) ∧
          (seq ≠ 0 → (∃ r ∈ s.pkt.pocket, r.seq = seq) → e.seq ≠ seq →
            exec (.envelopeCapture source [tag, x, y, z]) s = .next (refused .notOldest)) ∧
          (seq ≠ 0 → e.seq = seq → e.state ≠ .inPocket →
            exec (.envelopeCapture source [tag, x, y, z]) s = .next (refused .busy)) ∧
          (seq = 0 → (∃ r ∈ s.pkt.pocket, r.state = .returning) ∨ (∀ r ∈ s.pkt.pocket, r.state ≠ .inPocket) →
            exec (.envelopeCapture source [tag, x, y, z]) s = .next (refused .busy)) ∧
          ((seq ≠ 0 ∧ e.seq = seq ∧ e.state = .inPocket)
              ∨ (seq = 0 ∧ (∀ r ∈ s.pkt.pocket, r.state ≠ .returning) ∧ ∃ r ∈ s.pkt.pocket, r.state = .inPocket) →
            (s.ink.state = .jammed → exec (.envelopeCapture source [tag, x, y, z]) s = .next (refused .busy)) ∧
            (s.ink.state ≠ .jammed →
              (s.pt.view = none → exec (.envelopeCapture source [tag, x, y, z]) s = .next (refused .binUnknown)) ∧
              (∀ v, s.pt.view = some v →
                (s.pkt.capacity ≤ v → exec (.envelopeCapture source [tag, x, y, z]) s = .next (refused .captureBinFull)) ∧
                (v < s.pkt.capacity →
                  (seq ≠ 0 → exec (.envelopeCapture source [tag, x, y, z]) s
                    = .next (replied source tag 24 .ok (be1 1 ++ be3 e.seq) (settle { atCommand s source with
                        pkt.pocket := { e with state := .captureWait } :: rest }))) ∧
                  (∀ newest front, seq = 0 →
                    s.pkt.pocket.filter (fun r => r.state = .inPocket) = front ++ [newest] →
                    exec (.envelopeCapture source [tag, x, y, z]) s
                      = .next (replied source tag 24 .ok (be1 (front.length + 1) ++ be3 newest.seq)
                          (settle { atCommand s source with
                            pkt.pocket := s.pkt.pocket.map (fun r =>
                              if r.state = .inPocket then { r with state := .captureWait } else r) }))))))))))) ∧
  (∀ (s : State) (source : Station) (tag x y z : Byte) (seq : Nat) (refused : Code → State), seq = beNat [x, y, z] →
    Taken s source 25 [tag, x, y, z] →
    refused = (fun code => replied source tag 25 code [] (atCommand s source)) →
    RefusedUnlessOpen s source tag 25 (.envelopeReturn source [tag, x, y, z]) ∧ (OpenTo s source →
      (s.pkt.pocket = [] → exec (.envelopeReturn source [tag, x, y, z]) s = .next (refused .pocketEmpty)) ∧
      (∀ e rest, s.pkt.pocket = e :: rest →
        ((∀ r ∈ s.pkt.pocket, r.seq ≠ seq) →
          exec (.envelopeReturn source [tag, x, y, z]) s = .next (refused .noSuchEnvelope)) ∧
        ((∃ r ∈ s.pkt.pocket, r.seq = seq) → e.seq ≠ seq →
          exec (.envelopeReturn source [tag, x, y, z]) s = .next (refused .notOldest)) ∧
        (e.seq = seq → e.state ≠ .inPocket → exec (.envelopeReturn source [tag, x, y, z]) s = .next (refused .busy)) ∧
        (e.seq = seq → e.state = .inPocket →
          (s.lockdown = true → exec (.envelopeReturn source [tag, x, y, z]) s = .next (refused .lockdown)) ∧
          (s.lockdown = false → s.drawerFree = false ∨ s.drw.pendingReq ≠ none ∨ s.drw.tray = true →
            exec (.envelopeReturn source [tag, x, y, z]) s = .next (refused .drawerBusy)) ∧
          (s.drawerFree = true → s.drw.pendingReq = none → s.drw.tray = false →
            exec (.envelopeReturn source [tag, x, y, z]) s
              = .next (replied source tag 25 .ok (be3 e.seq) { atCommand s source with
                  pkt.pocket := { e with state := .returning } :: rest,
                  drw := { s.drw with
                    state := .extending, purpose := .ret, phase := .load, reported := false, hold := false,
                    reachedOpen := false, mode := .standing, trayEmpty := none, motion := none, returnSeq := some e.seq,
                    load := some 5000 },
                  ink := { s.ink with
                    state := .ejecting, record := IntakeRec.fresh .eject, coveredInRun := s.ink.sensor,
                    sinceClear := 0 } }))))))

/-- IMPRINT_FIELD: the checks of R100 orders 1 and 2 come first; a page above 8 is refused, a start column above 42 is clamped
to 42, with page 8 as well, and the window being printed keeps the field window it opened with: a print window takes the field
window that stands when it opens. The image is the raster with the 54 columns of the field "LL-SSSSSS" laid over it on the
field's page; the shapes of the digits are free (log 9). The byte widths of the reply details are the model's (log 44). -/
def Obligations.ImprintFieldWindow : Prop :=
  (∀ (s : State) (pulses m : Nat), s.ink.state = .drawing → s.ink.sensor = true → s.ink.record.sinceLead = some m →
     40 ≤ m + pulses → ∃ t w, exec (.printWindowOpen pulses) s = .next t ∧ t.ink.window = some w
       ∧ w.page = s.ink.fieldPage ∧ w.col = s.ink.fieldCol) ∧
  (∀ (s : State) (source : Station) (tag page col : Byte), Taken s source 27 [tag, page, col] →
    (s.lsv.lane = .service → exec (.imprintField source [tag, page, col]) s
      = .next (replied source tag 27 .service [] (atCommand s source))) ∧
    (s.lsv.lane ≠ .service → s.lsv.lane ≠ .opened → exec (.imprintField source [tag, page, col]) s
      = .next (replied source tag 27 .laneClosed [] (atCommand s source))) ∧
    (s.lsv.lane = .opened → ¬ OwnerPasses s source → exec (.imprintField source [tag, page, col]) s
      = .next (replied source tag 27 .notOwner [] (atCommand s source))) ∧
    (OpenTo s source →
      (8 < page.toNat → exec (.imprintField source [tag, page, col]) s
        = .next (replied source tag 27 .badParam [] (atCommand s source))) ∧
      (page.toNat ≤ 8 → 42 < col.toNat → exec (.imprintField source [tag, page, col]) s
        = .next (replied source tag 27 .clamped (be1 page.toNat ++ be1 42)
            { atCommand s source with ink.fieldPage := page.toNat, ink.fieldCol := 42 })) ∧
      (page.toNat ≤ 8 → col.toNat ≤ 42 → exec (.imprintField source [tag, page, col]) s
        = .next (replied source tag 27 .ok (be1 page.toNat ++ be1 col.toNat)
            { atCommand s source with ink.fieldPage := page.toNat, ink.fieldCol := col.toNat })))) ∧
  (∀ (station : Station) (w : PrintWindow) (page col : Nat), page < 8 → w.page ≤ 8 → w.col ≤ 42 →
    (columnBytes station w col).getD page 0 = imageByte station w page col ∧ (columnBytes station w col).length = 8 ∧
    (w.page ≠ page ∨ col < w.col ∨ w.col + 54 ≤ col →
      imageByte station w page col = w.raster.toList.getD (page * 96 + col) 0) ∧
    (w.page = page → ∀ k c, k < 9 → c < 6 → col = w.col + 6 * k + c →
      (c = 5 → imageByte station w page col = 0) ∧
      (c < 5 → k = 2 → imageByte station w page col = 0x08) ∧
      (∀ digit, c < 5 →
        (k = 0 ∧ digit = station.toNat / 10) ∨ (k = 1 ∧ digit = station.toNat % 10)
          ∨ (3 ≤ k ∧ digit = w.seq / 10 ^ (8 - k) % 10) →
        imageByte station w page col = (Config.glyphColumn digit c).setWidth 8
        ∧ (imageByte station w page col).getLsbD 7 = false)))

/-- IMPRINT_WRITE: bytes go to successive positions of the raster, on from page to page and from the last to the first; a page
above 7, a column above 95, no data or more than 20 bytes of it is refused, after the checks that the lane is OPEN and the
sender its owner (that this order holds for the number of bytes too is log 20), and during a print window the raster is not
written. Every other byte of the raster stays. The byte widths of the reply details are the model's (log 44). -/
def Obligations.ImprintWriteStores : Prop :=
  ∀ (s : State) (source : Station) (tag page col : Byte) (data : List Byte),
    Taken s source 26 (tag :: page :: col :: data) → data.length ≤ 21 →
    RefusedUnlessOpen s source tag 26 (.imprintWrite source (tag :: page :: col :: data)) ∧ (OpenTo s source →
    (7 < page.toNat ∨ 95 < col.toNat ∨ data = [] ∨ 20 < data.length →
      exec (.imprintWrite source (tag :: page :: col :: data)) s
        = .next (replied source tag 26 .badParam [] (atCommand s source))) ∧
    (page.toNat ≤ 7 → col.toNat ≤ 95 → 1 ≤ data.length → data.length ≤ 20 →
      (s.ink.state = .printing → exec (.imprintWrite source (tag :: page :: col :: data)) s
        = .next (replied source tag 26 .imprintBusy [] (atCommand s source))) ∧
      (s.ink.state ≠ .printing → ∀ start next, start = page.toNat * 96 + col.toNat → next = (start + data.length) % 768 →
        ∃ raster : Raster, exec (.imprintWrite source (tag :: page :: col :: data)) s
            = .next (replied source tag 26 .ok (be1 (next / 96) ++ be1 (next % 96))
                { atCommand s source with ink.raster := raster })
          ∧ (∀ i (h : i < data.length), raster.toList.getD ((start + i) % 768) 0 = data[i])
          ∧ (∀ j, j < 768 → (∀ i, i < data.length → (start + i) % 768 ≠ j) →
              raster.toList.getD j 0 = s.ink.raster.toList.getD j 0))))

/-- CASSETTE_LOAD and BIN_SET, in SERVICE: the count of a seated cassette and the two bin counts are set, clamped to their
ranges, the cassette's state follows its count and LOADED is reported; outside SERVICE, from a console that is not the owner, or
for a slot that does not exist, is UNUSED or is ABSENT, nothing is set. The byte widths of the reply details are the model's
(log 44). -/
def Obligations.ServiceCounts : Prop :=
  ∀ (s : State) (source : Station) (tag : Byte),
    (∀ n x y : Byte, Taken s source 28 [tag, n, x, y] →
      (¬ OwnerPasses s source → exec (.cassetteLoad source [tag, n, x, y]) s
        = .next (replied source tag 28 .notOwner [] (atCommand s source))) ∧
      (OwnerPasses s source → s.lsv.lane = .service → n.toNat = 0 ∨ 4 < n.toNat →
        exec (.cassetteLoad source [tag, n, x, y]) s
          = .next (replied source tag 28 .badParam [] (atCommand s source)))) ∧
    (∀ (k : Slot) (n x y : Byte), Taken s source 28 [tag, n, x, y] → n.toNat = k.number → OwnerPasses s source →
      (s.lsv.lane ≠ .service → exec (.cassetteLoad source [tag, n, x, y]) s
        = .next (replied source tag 28 .badState [] (atCommand s source))) ∧
      (s.lsv.lane = .service → (s.cas.get k).state = .unused ∨ (s.cas.get k).state = .absent →
        exec (.cassetteLoad source [tag, n, x, y]) s = .next (replied source tag 28 .badParam [] (atCommand s source))) ∧
      (s.lsv.lane = .service → (s.cas.get k).state ≠ .unused → (s.cas.get k).state ≠ .absent →
        ∀ c r, c = min 3000 (beNat [x, y]) →
        r = casJudge { s.cas.get k with count := c, loaded := c, mispicks := 0 } →
        exec (.cassetteLoad source [tag, n, x, y]) s
          = .next (replied source tag 28 (if beNat [x, y] ≤ 3000 then .ok else .clamped)
              (be1 k.number ++ be2 c ++ be1 r.state.code)
              (queueEvent 52 (be1 k.number ++ be1 r.state.code ++ be2 c ++ be1 5)
                { atCommand s source with cas := s.cas.set k r })))) ∧
    (∀ a b c d : Byte, Taken s source 29 [tag, a, b, c, d] →
      (¬ OwnerPasses s source → exec (.binSet source [tag, a, b, c, d]) s
        = .next (replied source tag 29 .notOwner [] (atCommand s source))) ∧
      (OwnerPasses s source → s.lsv.lane ≠ .service → exec (.binSet source [tag, a, b, c, d]) s
        = .next (replied source tag 29 .badState [] (atCommand s source))) ∧
      (OwnerPasses s source → s.lsv.lane = .service →
        ∀ r t, r = min s.dsp.rejectCap (beNat [a, b]) → t = min s.dsp.retractCap (beNat [c, d]) →
        exec (.binSet source [tag, a, b, c, d]) s
          = .next (replied source tag 29 (if r = beNat [a, b] ∧ t = beNat [c, d] then .ok else .clamped) (be2 r ++ be2 t)
              { atCommand s source with dsp.rejectCount := r, dsp.retractCount := t, dsp.overflow := false })))

/-- ALARM_ACK and ALARM_RESET: the first stops a sounding siren and leaves the latches, the second clears each kind its loops no
longer hold, raises the alarm flag in every case, and releases relay and siren by what is left; both are refused in AWAIT_CONFIG
alone. The byte widths of the reply details are the model's (log 44). -/
def Obligations.AlarmCommands : Prop :=
  ∀ (s : State) (source : Station) (tag : Byte),
    (Taken s source 32 [tag] →
      (s.lsv.lane = .awaitConfig → exec (.alarmAck source [tag]) s
        = .next (replied source tag 32 .badState [] (atCommand s source))) ∧
      (s.lsv.lane ≠ .awaitConfig → s.alm.siren = true → exec (.alarmAck source [tag]) s
        = .next (replied source tag 32 .ok (be1 s.alm.latch.code) { atCommand s source with
            alm.siren := false, alm.sirenTimer := none, alm.sirenOn := false, alm.sirenToggle := none })) ∧
      (s.lsv.lane ≠ .awaitConfig → s.alm.siren = false → exec (.alarmAck source [tag]) s
        = .next (replied source tag 32 .ok (be1 s.alm.latch.code) (atCommand s source)))) ∧
    (Taken s source 33 [tag] →
      (s.lsv.lane = .awaitConfig → exec (.alarmReset source [tag]) s
        = .next (replied source tag 33 .badState [] (atCommand s source))) ∧
      (s.lsv.lane ≠ .awaitConfig → ∀ left : AlarmSet,
        left.duress = (s.alm.latch.duress && s.alm.loops.one.enabled && s.alm.loops.one.state != .normal) →
        left.tamper = (s.alm.latch.tamper && ((s.alm.loops.two.enabled && s.alm.loops.two.state != .normal)
          || s.alm.loops.toList.any (fun l => l.enabled && l.state == .short))) →
        left.cabinet = (s.alm.latch.cabinet && s.alm.loops.three.enabled && s.alm.loops.three.state != .normal) →
        left.bin = (s.alm.latch.bin && s.alm.loops.four.enabled && s.alm.loops.four.state != .normal) →
        ∀ after : State,
        (left = s.alm.latch → after = { atCommand s source with biu.alarmFlag := true }) →
        (left ≠ s.alm.latch → after =
          { formWall { atCommand s source with alm.latch := left, biu.alarmFlag := true, alm.latchChanged := true } with
            alm.relay := if s.alm.latch.duress && !left.duress then false else s.alm.relay }) →
        exec (.alarmReset source [tag]) s
          = .next (replied source tag 33 (if left = AlarmSet.empty then .ok else .stillActive)
              (if left = AlarmSet.empty then [] else be1 left.code)
              (settle (if left.sounds then after else stopSiren after)))))

/-- QUERY: a valid section and part, part 0 where the payload names none, fill the position of the LANE_RECORD with tag,
section, part, number of parts and content, composed before the event gap is cleared; another section or part is refused, and
that position is freed. The content of every section and part is the blocks' fields in the order of the rule R178 names, with
the codes of R179, and holds at most 20 bytes. How absent values, remaining times and the fields of two values are written is
the model's in places (log 10, 19). The byte widths of the reply details are the model's (log 44). That the void count shows the
QUERY's own reset is log 49, that its two positions count as reservations is log 52. -/
def Obligations.QueryComposesARecord : Prop :=
  (∀ (s : State) (source : Station) (p : List Byte) (tag sec part : Byte) (lines : Lines) (parts : Nat),
    p = [tag, sec, part] ∨ (p = [tag, sec] ∧ part = 0) → Taken s source 34 p →
    (sectionParts sec.toNat = none → exec (.query source p lines) s
      = .next (replied source tag 34 .badParam []
          { atCommand s source with lines := lines, biu.fifo := s.biu.fifo.erase (.reserved .record) })) ∧
    (sectionParts sec.toNat = some parts →
      (parts ≤ part.toNat → exec (.query source p lines) s
        = .next (replied source tag 34 .badParam []
            { atCommand s source with lines := lines, biu.fifo := s.biu.fifo.erase (.reserved .record) })) ∧
      (part.toNat < parts → exec (.query source p lines) s
        = .next (replied source tag 34 .ok (be1 sec.toNat ++ be1 part.toNat)
            (fillFrame .record
              { kind := 57, dest := source,
                payload := [tag] ++ be1 sec.toNat ++ be1 part.toNat ++ be1 parts
                  ++ sectionContent sec.toNat part.toNat { atCommand s source with lines := lines } }
              { atCommand s source with lines := lines, cmd.eventGap := false }))))) ∧
  (List.map sectionParts [0, 1, 2, 3, 4, 5, 6] = [some 16, some 1, some 1, some 1, some 1, some 1, some 3]
    ∧ (∀ n, 6 < n → sectionParts n = none)
    ∧ (∀ (s : State) (sec part parts : Nat), sectionParts sec = some parts → part < parts →
        (sectionContent sec part s).length ≤ 20)
    ∧ (∀ (l : List Bool) (i : Nat), l.length ≤ 8 → i < 8 → (packBits l).getLsbD (7 - i) = l.getD i false)) ∧
  (∀ s : State,
    sectionContent 0 0 s = be1 s.lsv.lane.code ++ be1 s.lsv.station.toNat ++ be1 (s.cmd.owner.getD 15).toNat
      ++ [packBits [s.cmd.eventGap, s.biu.slow, s.biu.quiet.isSome]] ++ be2 (s.biu.quiet.getD 0) ++ be1 s.biu.voidCount
      ++ be1 s.biu.wallQueue.length
      ++ be1 (s.biu.fifo.filterMap (fun p => match p with | .frame f => some f | .reserved _ => none)).length
      ++ be1 (s.biu.fifo.filterMap (fun p => match p with | .frame _ => none | .reserved r => some r)).length
      ++ [packBits [s.biu.alarmFlag, s.biu.statusFlag]]
    ∧ (∀ m : Measured, s.ntg.last = some m → sectionContent 0 1 s = be1 s.ntg.state.code ++ be1 s.ntg.cause.code
        ++ be2 s.ntg.c0L ++ be2 s.ntg.c0R ++ [packBits [s.ntg.valid]] ++ be1 s.ntg.records.length
        ++ opt1 (m.slot.map Slot.number) ++ opt2 (m.indices.map (fun t => t.1)) ++ opt2 (m.indices.map (fun t => t.2))
        ++ be2 m.length ++ opt1 (m.gauge.map GaugeClass.code) ++ be1 m.lengthClass.code
        ++ [packBits [decide (m.outcome = .reject)]] ++ opt1 (m.reason.map RejectReason.code) ++ be1 m.estimate)
    ∧ (s.ntg.last = none → sectionContent 0 1 s = be1 s.ntg.state.code ++ be1 s.ntg.cause.code ++ be2 s.ntg.c0L
        ++ be2 s.ntg.c0R ++ [packBits [s.ntg.valid]] ++ be1 s.ntg.records.length ++ be1 255 ++ be2 65535 ++ be2 65535
        ++ be2 65535 ++ be1 255 ++ be1 255 ++ [0x80] ++ be1 255 ++ be1 255)
    ∧ sectionContent 0 2 s = be1 s.dsp.state.code ++ opt1 (s.dsp.pendingEnd.map EndReason.code) ++ be3 s.dsp.amount
      ++ be3 s.dsp.delivered ++ be3 s.dsp.paid ++ be3 s.dsp.inStacker ++ be1 s.dsp.reservation.code
      ++ [packBits [s.dsp.cancelMark, s.dsp.lockMark]]
    ∧ sectionContent 0 3 s = be1 s.dsp.stackerCount ++ be1 s.dsp.taken ++ be1 s.dsp.retracted ++ be2 s.dsp.rejected
      ++ be1 s.dsp.rejectEvents ++ be1 s.dsp.bundle ++ be1 s.dsp.pickList.length
      ++ opt1 ((s.dsp.pickList.findIdx? (fun e => decide (e.state = .active))).map (· + 1))
      ++ be1 (remaining 1000 (s.dsp.suspendTimer.getD 0))
    ∧ sectionContent 0 4 s = be1 s.drw.state.code ++ be1 s.drw.purpose.code
      ++ [packBits [if s.drw.state = .extending then decide (s.drw.phase = .travel) else true]]
      ++ opt1 (s.drw.pendingReq.map (fun r => r.bundle)) ++ opt1 (s.drw.pendingReq.map (fun r => r.count))
      ++ [packBits [(s.drw.pendingReq.map (fun r => r.final)).getD true, s.drw.blocked, s.drw.reported, s.drw.hold]]
      ++ opt3 (if s.drw.purpose = .ret then s.drw.returnSeq else none) ++ be1 s.drw.obstructions ++ be1 s.drw.jam.code
      ++ be1 (remaining 1000 ((s.drw.take.orElse (fun _ => s.drw.deposit)).getD 0))
      ++ [packBits [s.lines.home, s.lines.ext, s.drw.tray, s.drw.safe]]
    ∧ sectionContent 0 5 s = be1 s.ink.state.code ++ be1 s.ink.record.jam.code ++ be3 s.ink.seqCounter ++ be1 s.ink.fieldPage
      ++ be1 s.ink.fieldCol ++ [packBits [s.lines.hot, s.ink.sensor, s.ink.mirror]] ++ be1 s.ink.energy
      ++ be1 s.ink.record.kind.code ++ opt3 s.ink.record.seq ++ opt2 s.ink.record.length
      ++ opt1 (s.ink.record.outcome.map IntakeOutcome.code) ++ opt1 s.ink.record.strobed ++ opt1 s.ink.record.skipped
      ++ [packBits [s.ink.record.hotSeen.getD true]] ++ opt1 (s.ink.record.quality.map Quality.code)
    ∧ sectionContent 0 6 s = Slot.all.flatMap (fun k => be1 (LoopClass.code (s.lines.comparators.get k))
          ++ be1 (LoopClass.code (s.alm.loops.get k).state) ++ [packBits [(s.alm.loops.get k).enabled]])
      ++ be1 s.alm.latch.code ++ be1 s.alm.wall.code ++ [packBits [s.silent, s.lockdown, s.captureHold, s.alm.siren]]
      ++ be1 (remaining 1000 (s.alm.sirenTimer.getD 0))
      ++ [packBits [s.alm.relay, s.alm.serviceWindow, s.biu.alarmFlag]]
    ∧ sectionContent 0 7 s = be4 (exposureSum s.pt.peers) ++ be4 s.pt.wallLimit ++ be2 (s.pt.listenIn.getD 0)
      ++ [packBits [s.pt.quietEnded, s.pt.stuckSeen]]
    ∧ (∀ peer : Nat → List Byte, peer = (fun n =>
          let p := if n = s.lsv.station.toNat
            then { peerAt s.pt.peers n with
              lane := some s.lsv.lane.code, dispense := some s.dsp.state.code,
              drawer := some (s.drw.state.code, s.drw.purpose.code), announced := s.alm.latch }
            else peerAt s.pt.peers n
          be1 (p.present.toNat * 128 + p.holder.toNat * 64 + p.announced.code) ++ be2 p.age ++ be3 p.exposure
            ++ be1 (p.lane.getD 15 * 16 + p.dispense.getD 15)
            ++ be1 (match p.drawer with | some d => d.1 * 32 + d.2 * 8 | none => 224)) →
        (∀ n, n < 7 → sectionContent 0 (8 + n) s = peer (2 * n) ++ peer (2 * n + 1)) ∧ sectionContent 0 15 s = peer 14)
    ∧ (∀ (k : Slot) (c : Cassette), c = s.cas.get k → sectionContent k.number 0 s = be1 k.number ++ be1 c.state.code
        ++ [packBits [c.present]] ++ be2 c.denomination ++ be2 c.nominal ++ be2 c.ref8L ++ be2 c.ref8R ++ be2 c.count
        ++ be2 c.loaded ++ be2 c.lowMark ++ be1 c.mispicks)
    ∧ sectionContent 5 0 s = be2 s.dsp.rejectCount ++ be2 s.dsp.rejectCap ++ be2 s.dsp.retractCount ++ be2 s.dsp.retractCap
      ++ [packBits [s.dsp.overflow]] ++ opt2 s.pt.view ++ be2 s.pkt.capacity
    ∧ sectionContent 6 0 s = be1 s.pkt.pocket.length ++ be1 s.coveredPlaces ++ be1 s.pkt.chute.code
      ++ be2 (if s.pkt.chute = .launched then remaining 100 (s.pkt.gate.getD 0) else 0) ++ be1 s.pkt.fairness.isSome.toNat
      ++ be3 (((s.pkt.pocket.find? (fun e => decide (e.state = .returning))).map (fun e => e.seq)).getD 0)
    ∧ (∀ envelope : EnvRec → List Byte, envelope = (fun e =>
          be3 e.seq ++ be2 e.length ++ be1 (e.quality.code * 64 + e.state.code * 16 + e.recovered.toNat * 8)
            ++ be1 (if e.quality = .part then e.skipped else 0)) →
        sectionContent 6 1 s = (s.pkt.pocket.take 2).flatMap envelope
        ∧ sectionContent 6 2 s = ((s.pkt.pocket.drop 2).take 2).flatMap envelope)) ∧
  (List.map LaneState.code [.starting, .awaitConfig, .purging, .listening, .closed, .opened, .service, .fault]
      = [0, 1, 2, 3, 4, 5, 6, 7]
    ∧ (∀ a : AlarmSet, a.code = a.duress.toNat * 8 + a.tamper.toNat * 4 + a.cabinet.toNat * 2 + a.bin.toNat)
    ∧ List.map EndReason.code [.complete, .cancelled, .wallLimit, .busFault, .lockdown, .retracted, .tooManyRejects,
        .suspendTimeout, .gaugeFault, .jam, .restart] = [0, 1, 2, 3, 4, 5, 6, 7, 8, 9, 10]
    ∧ List.map DspState.code [.purging, .idle, .reserving, .baseline, .picking, .stacked, .presenting, .suspended, .fault]
      = [0, 1, 2, 3, 4, 5, 6, 7, 8]
    ∧ List.map CasState.code [.unused, .absent, .ok, .low, .empty] = [0, 1, 2, 3, 4]
    ∧ List.map NtgState.code [.idle, .baseline, .feeding, .draining, .purge, .halted] = [0, 1, 2, 3, 4, 5]
    ∧ List.map HaltCause.code [.none, .stall, .strayObject, .longObject, .noExit, .exitBlocked, .divertFault, .purgeStopped]
      = [0, 1, 2, 3, 4, 5, 6, 7]
    ∧ List.map GaugeClass.code [.single, .thin, .folded, .double, .multiple] = [0, 1, 2, 3, 4]
    ∧ List.map LengthClass.code [.short, .ok, .chained] = [0, 1, 2]
    ∧ List.map RejectReason.code [.thin, .folded, .double, .multiple, .short, .chained, .diverted, .purged]
      = [1, 2, 3, 4, 5, 6, 7, 8]
    ∧ List.map ResMark.code [.none, .queued, .sent] = [0, 1, 2]
    ∧ List.map DrwState.code [.closed, .extending, .opened, .retracting, .jammed] = [0, 1, 2, 3, 4]
    ∧ List.map Purpose.code [.none, .deposit, .notes, .ret] = [0, 1, 2, 3]
    ∧ List.map DrwJam.code [.none, .load, .extendTime, .retractTime, .backoffTime, .switches] = [0, 1, 2, 3, 4, 5]
    ∧ List.map InkState.code [.idle, .waiting, .drawing, .printing, .seating, .reversing, .ejecting, .jammed]
      = [0, 1, 2, 3, 4, 5, 6, 7]
    ∧ List.map IntakeKind.code [.intake, .reverseRun, .eject] = [0, 1, 2]
    ∧ List.map IntakeOutcome.code [.accepted, .tooShort, .tooLong, .notDrawn, .jammed] = [0, 1, 2, 3, 4]
    ∧ List.map InkJam.code [.none, .stall, .stray, .seat, .reverse, .eject, .clear] = [0, 1, 2, 3, 4, 5, 6]
    ∧ List.map Quality.code [.full, .light, .part, .unknown] = [0, 1, 2, 3]
    ∧ List.map EnvState.code [.inPocket, .returning, .captureWait, .launched] = [0, 1, 2, 3]
    ∧ List.map ChuteState.code [.none, .claiming, .launched, .releasing] = [0, 1, 2, 3]
    ∧ List.map LoopClass.code [.normal, .opened, .short] = [0, 1, 2])

/-- RESTART: refused in AWAIT_CONFIG; in every other lane state its acts follow in their order: the dispense ends by its state;
the transport stops with its records, the drawer is dealt with, a waiting intake and the service timer, a held fault and
listen-in are dropped and the service window closes; the owner is dropped and every held restart answered OK in its kept
position; and the lane enters PURGING, where a queued claim is withdrawn, the stacker's leftover goes into the reject bin, the
transport's purge run starts, and the drawer is sent home, or from CLOSED the intake is asked for its clear run, or JAMMED fails
the purge at once. While the own RESERVE is in transmission the restart is held and the reply waits. What is configured, the
cassettes, the raster, the bins' capacities and the retract count, the view, the loops, and with no service window open the
latches, all stay, and the pocket loses no record. What a restart does to the drawer: requests and timers dropped, the purpose
kept for a return alone, a retract order with the obstruction count at 0, and a JAMMED drawer driven in, or taken from its
switches where it is home. That the whole restart is held is the model's reading (log 28), that the reason recorded first is
kept is its choice (log 16), and so are that a drawer found jammed at home is dealt with by no arrival (log 39) and that an exit
sensor counts afresh in the run (log 34), and that the notes of a stopped sweep are not reported (log 51). What a purge makes of
a drawer whose switches have not settled is log 50. -/
def Obligations.RestartEntersPurging : Prop :=
  (∀ (s q : State) (source : Station) (tag : Byte) (lines : Lines), Taken s source 35 [tag] →
    q = { atCommand s source with
      lines := lines, lsv.heldRestarts := s.lsv.heldRestarts ++ [(source, tag)],
      biu.fifo := fillPos .reply (.reserved .restart) s.biu.fifo } →
    (s.lsv.lane = .awaitConfig → exec (.restart source [tag] lines) s
      = .next (replied source tag 35 .badState [] (atCommand s source))) ∧
    (s.lsv.lane ≠ .awaitConfig → s.dsp.state = .reserving → s.reserveSending = true →
      exec (.restart source [tag] lines) s
        = .next (settle { q with dsp.pendingEnd := some (s.dsp.pendingEnd.getD .restart) })) ∧
    (s.lsv.lane ≠ .awaitConfig → s.dsp.state ≠ .reserving ∨ s.reserveSending = false →
      exec (.restart source [tag] lines) s = .next (settle (restartTail (dspRestart q))) ∧
      (s.drw.state ≠ .jammed ∨ lines.home = false ∨ lines.ext = false →
        ∃ t, exec (.restart source [tag] lines) s = .next t
          ∧ t.lsv.lane = .purging ∧ t.cmd.owner = none ∧ t.dsp.dispensing = false ∧ t.dsp.state = .purging
          ∧ t.ntg.state = .purge ∧ t.ntg.order = none ∧ t.ntg.diverter = .reject ∧ t.alm.serviceWindow = false
          ∧ t.drw.purpose ≠ .notes ∧ t.drw.obstructions = 0 ∧ t.lsv.heldFault = false ∧ t.lsv.serviceTimer = none
          ∧ t.lsv.heldRestarts = [] ∧ t.pt.listenIn = none ∧ t.pt.wallLimit = s.pt.wallLimit
          ∧ t.dsp.bundleLimit = s.dsp.bundleLimit ∧ t.dsp.rejectCap = s.dsp.rejectCap ∧ t.dsp.retractCap = s.dsp.retractCap
          ∧ t.dsp.retractCount = s.dsp.retractCount ∧ t.cas = s.cas ∧ t.ink.raster = s.ink.raster
          ∧ t.ink.fieldPage = s.ink.fieldPage ∧ t.ink.fieldCol = s.ink.fieldCol ∧ t.ink.energy = s.ink.energy
          ∧ t.ink.mirror = s.ink.mirror ∧ t.pt.view = s.pt.view ∧ t.pkt.capacity = s.pkt.capacity
          ∧ t.ntg.gateLength = s.ntg.gateLength ∧ t.drw.takeTimeout = s.drw.takeTimeout
          ∧ t.drw.depositTimeout = s.drw.depositTimeout ∧ t.alm.loops = s.alm.loops
          ∧ (s.alm.serviceWindow = false → t.alm.latch = s.alm.latch)
          ∧ (∃ found, t.pkt.pocket = s.pkt.pocket ++ found)
          ∧ (s.lsv.heldRestarts = [] → .reserved .reply ∈ s.biu.fifo →
              .frame { kind := 48, dest := source, payload := [tag, 35, 0] } ∈ t.biu.fifo)))) ∧
  (∀ s : State,
    (s.dsp.state = .idle ∨ s.dsp.state = .fault ∨ (s.dsp.state = .purging ∧ s.dsp.dispensing = false) → dspRestart s = s) ∧
    (s.dsp.state = .purging → s.dsp.dispensing = true →
      dspRestart s = dspEnd (s.dsp.pendingEnd.getD .restart) .purging s) ∧
    (s.dsp.state = .reserving → s.reserveSending = false →
      dspRestart s = dspEnd .restart .purging (dropWall (.reserve s.dsp.amount) s)) ∧
    (s.dsp.state = .stacked →
      dspRestart s = dspEnd .restart .purging { s with drw.pendingReq := none, drw.blocked := false }) ∧
    (s.dsp.state = .baseline ∨ s.dsp.state = .picking ∨ s.dsp.state = .suspended ∨ s.dsp.state = .presenting →
      dspRestart s = dspEnd .restart .purging s)) ∧
  (∀ s d i w : State,
    d = drawerRestart { s with
      ntg.order := none, ntg.state := if s.ntg.state = .halted then .halted else .idle,
      ntg.valid := s.ntg.valid && decide (s.ntg.state ≠ .baseline) } →
    i = { d with ink.state := if d.ink.state = .waiting then .idle else d.ink.state,
                 lsv.serviceTimer := none, lsv.heldFault := false, pt.listenIn := none } →
    (d.alm.serviceWindow = false → w = i) →
    (d.alm.serviceWindow = true →
      (d.alm.loops.three.enabled = false ∨ d.alm.loops.three.state = .normal → w = { i with alm.serviceWindow := false }) ∧
      (d.alm.loops.three.enabled = true → d.alm.loops.three.state ≠ .normal →
        w = latchKinds { AlarmSet.empty with cabinet := true } { i with alm.serviceWindow := false })) →
    restartTail s = enterPurging { w with
      cmd.owner := none, lsv.heldRestarts := [],
      biu.fifo := w.lsv.heldRestarts.foldl
        (fun fifo r => fillPos .restart (.frame { kind := 48, dest := r.1, payload := [r.2, 35, 0] }) fifo) w.biu.fifo }) ∧
  (∀ (what : Reservation) (f p : FifoPos) (rest : List FifoPos), fillPos what f [] = [] ∧
    fillPos what f (p :: rest) = if p = .reserved what then f :: rest else p :: fillPos what f rest) ∧
  (∀ s p d : State,
    p = settlePkt { s with lsv.lane := .purging, lsv.stage := .drawer, lsv.transportDone := false } →
    d = { p with
      dsp.rejectCount := min s.dsp.rejectCap (s.dsp.rejectCount + s.dsp.leftover),
      dsp.overflow := s.dsp.overflow || decide (s.dsp.rejectCap < s.dsp.rejectCount + s.dsp.leftover),
      dsp.leftover := 0, dsp.state := .purging, dsp.dispensing := false,
      ntg := { s.ntg with
        state := .purge, cause := .none, order := none, valid := s.ntg.valid && decide (s.ntg.state ≠ .baseline),
        records := s.ntg.records.map (fun r => { r with
          purge := true, route := some .reject, sincePick := r.sincePick.map (fun _ => 0),
          sinceLead := r.sinceLead.map (fun _ => 0), sinceTrail := r.sinceTrail.map (fun _ => 0) }),
        diverter := .reject, sinceStart := 0, purged := 0, exitS := s.ntg.exitS.map (fun _ => 0),
        exitR := s.ntg.exitR.map (fun _ => 0), clearFor := 0 } } →
    (s.drw.state = .jammed → enterPurging s = { d with lsv.lane := .fault }) ∧
    (s.drw.state = .closed → enterPurging s = clearRequest { d with lsv.stage := .intake }) ∧
    (s.drw.state = .extending ∨ s.drw.state = .opened ∨ s.drw.state = .retracting →
      enterPurging s = { d with drw := retractOrder s.drw })) ∧
  (∀ (s : State) (d : Drw), d = { s.drw with
      pendingReq := none, blocked := false, take := none, deposit := none, sweep := none, obstructions := 0,
      purpose := if s.drw.purpose = .ret then .ret else .none,
      trayEmpty := if s.drw.purpose = .ret then s.drw.trayEmpty else none } →
    (s.drw.state ≠ .jammed → drawerRestart s = { s with drw := retractOrder d }) ∧
    (s.drw.state = .jammed →
      (s.lines.home = false → drawerRestart s = { s with drw := { d with
        jam := .none, state := .retracting, mode := .standing, motion := some 4000, obstruct := none,
        retractNext := false } }) ∧
      (s.lines.home = true → s.lines.ext = false → drawerRestart s = { s with drw := { d with jam := .none, state := .closed } }) ∧
      (s.lines.home = true → s.lines.ext = true →
        drawerRestart s = drawerJam .switches { s with drw := { d with jam := .none } })))

/-- The four configuration commands: refused outside AWAIT_CONFIG; CONFIG_LANE stores its fields clamped to their ranges,
CONFIG_CASSETTE a record whose state R2 gives, CONFIG_BINS each count within its capacity, and each is answered with the fields
as stored, CLAMPED exactly when one of them was clamped. A loop that CONFIG_LANE newly enables while it is not NORMAL latches as
if it had gone there then. CONFIG_DONE needs CONFIG_LANE and CONFIG_BINS and then takes the lane into PURGING. The byte widths
of the reply details are the model's (log 44), and so are the zeros in CONFIG_LANE's detail for the flag bits that are
disregarded (log 53). What a purge makes of a drawer whose switches have not settled is log 50. -/
def Obligations.ConfigurationCommands : Prop :=
  ∀ (s : State) (source : Station) (tag : Byte) (lines : Lines),
    (s.lsv.lane ≠ .awaitConfig →
      (∀ p, Taken s source 40 (tag :: p) → p.length = 13 → exec (.configLane source (tag :: p)) s
        = .next (replied source tag 40 .configLocked [] (atCommand s source))) ∧
      (∀ p, Taken s source 41 (tag :: p) → p.length = 13 → exec (.configCassette source (tag :: p)) s
        = .next (replied source tag 41 .configLocked [] (atCommand s source))) ∧
      (∀ p, Taken s source 42 (tag :: p) → p.length = 10 → exec (.configBins source (tag :: p)) s
        = .next (replied source tag 42 .configLocked [] (atCommand s source))) ∧
      (Taken s source 43 [tag] → exec (.configDone source [tag] lines) s
        = .next (replied source tag 43 .configLocked [] (atCommand s source)))) ∧
    (s.lsv.lane = .awaitConfig →
      (∀ p b, Taken s source 40 (tag :: p) → p.length = 13 → b = { atCommand s source with
          dsp.bundleLimit := clampTo 10 50 (field p 0 1), drw.takeTimeout := clampTo 10 120 (field p 1 1),
          drw.depositTimeout := clampTo 20 180 (field p 2 1), pt.wallLimit := field p 3 4,
          ntg.gateLength := clampTo 16 64 (field p 7 1), ink.energy := clampTo 0 63 (field p 8 1),
          ink.mirror := (field p 9 1).testBit 4, ink.seqCounter := clampTo 1 999999 (field p 10 3), lsv.gotLane := true } →
        ∃ t code, exec (.configLane source (tag :: p)) s
          = .next (replied source tag 40 code
              (be1 (clampTo 10 50 (field p 0 1)) ++ be1 (clampTo 10 120 (field p 1 1)) ++ be1 (clampTo 20 180 (field p 2 1))
                ++ be4 (field p 3 4) ++ be1 (clampTo 16 64 (field p 7 1)) ++ be1 (clampTo 0 63 (field p 8 1))
                ++ be1 (field p 9 1 % 32) ++ be3 (clampTo 1 999999 (field p 10 3))) t)
        ∧ t = settle (setEnable .four ((field p 9 1).testBit 0) (setEnable .three ((field p 9 1).testBit 1)
            (setEnable .two ((field p 9 1).testBit 2) (setEnable .one ((field p 9 1).testBit 3) b))))
        ∧ ((10 ≤ field p 0 1 ∧ field p 0 1 ≤ 50 ∧ 10 ≤ field p 1 1 ∧ field p 1 1 ≤ 120 ∧ 20 ≤ field p 2 1 ∧ field p 2 1 ≤ 180
            ∧ 16 ≤ field p 7 1 ∧ field p 7 1 ≤ 64 ∧ field p 8 1 ≤ 63 ∧ 1 ≤ field p 10 3 ∧ field p 10 3 ≤ 999999) → code = .ok)
        ∧ (¬ (10 ≤ field p 0 1 ∧ field p 0 1 ≤ 50 ∧ 10 ≤ field p 1 1 ∧ field p 1 1 ≤ 120 ∧ 20 ≤ field p 2 1
            ∧ field p 2 1 ≤ 180 ∧ 16 ≤ field p 7 1 ∧ field p 7 1 ≤ 64 ∧ field p 8 1 ≤ 63 ∧ 1 ≤ field p 10 3
            ∧ field p 10 3 ≤ 999999) → code = .clamped)
        ∧ t.dsp.bundleLimit = clampTo 10 50 (field p 0 1) ∧ t.drw.takeTimeout = clampTo 10 120 (field p 1 1)
        ∧ t.drw.depositTimeout = clampTo 20 180 (field p 2 1) ∧ t.pt.wallLimit = field p 3 4
        ∧ t.ntg.gateLength = clampTo 16 64 (field p 7 1) ∧ t.ink.energy = clampTo 0 63 (field p 8 1)
        ∧ t.ink.mirror = (field p 9 1).testBit 4
        ∧ (t.alm.loops.one.enabled, t.alm.loops.two.enabled, t.alm.loops.three.enabled, t.alm.loops.four.enabled)
            = ((field p 9 1).testBit 3, (field p 9 1).testBit 2, (field p 9 1).testBit 1, (field p 9 1).testBit 0)
        ∧ t.ink.seqCounter = clampTo 1 999999 (field p 10 3) ∧ t.lsv.gotLane = true ∧ t.lsv.lane = .awaitConfig
        ∧ t.cas = s.cas ∧ t.pkt.capacity = s.pkt.capacity ∧ t.lsv.gotBins = s.lsv.gotBins) ∧
      (∀ p, Taken s source 41 (tag :: p) → p.length = 13 →
        (Slot.ofNumber (field p 0 1) = none → exec (.configCassette source (tag :: p)) s
          = .next (replied source tag 41 .badParam [] (atCommand s source))) ∧
        (∀ k code, Slot.ofNumber (field p 0 1) = some k →
          code = (if 120 ≤ field p 3 2 ∧ field p 3 2 ≤ 400 ∧ 8 ≤ field p 5 2 ∧ field p 5 2 ≤ 8184 ∧ 8 ≤ field p 7 2
              ∧ field p 7 2 ≤ 8184 ∧ field p 9 2 ≤ 3000 ∧ field p 11 2 ≤ 3000 then .ok else .clamped) →
          exec (.configCassette source (tag :: p)) s = .next (replied source tag 41 code
            (be1 k.number ++ be2 (field p 1 2) ++ be2 (clampTo 120 400 (field p 3 2)) ++ be2 (clampTo 8 8184 (field p 5 2))
              ++ be2 (clampTo 8 8184 (field p 7 2)) ++ be2 (min 3000 (field p 9 2)) ++ be2 (min 3000 (field p 11 2)))
            { atCommand s source with
              cas := s.cas.set k (casJudge { s.cas.get k with
                denomination := field p 1 2, nominal := clampTo 120 400 (field p 3 2),
                ref8L := clampTo 8 8184 (field p 5 2), ref8R := clampTo 8 8184 (field p 7 2),
                loaded := min 3000 (field p 9 2), lowMark := min 3000 (field p 11 2), mispicks := 0,
                count := if field p 1 2 = 0 ∨ (s.cas.get k).present = false then 0 else min 3000 (field p 9 2) }) }))) ∧
      (∀ p, Taken s source 42 (tag :: p) → p.length = 10 → ∀ (rcap tcap ccap : Nat) (code : Code),
        rcap = clampTo 50 300 (field p 2 2) → tcap = clampTo 50 500 (field p 6 2) → ccap = clampTo 100 1000 (field p 8 2) →
        code = (if rcap = field p 2 2 ∧ tcap = field p 6 2 ∧ ccap = field p 8 2 ∧ field p 0 2 ≤ rcap ∧ field p 4 2 ≤ tcap
          then .ok else .clamped) →
        exec (.configBins source (tag :: p)) s
          = .next (replied source tag 42 code
              (be2 (min rcap (field p 0 2)) ++ be2 rcap ++ be2 (min tcap (field p 4 2)) ++ be2 tcap ++ be2 ccap)
            { atCommand s source with
              dsp.rejectCount := min rcap (field p 0 2), dsp.rejectCap := rcap, dsp.retractCount := min tcap (field p 4 2),
              dsp.retractCap := tcap, dsp.overflow := false, pkt.capacity := ccap, lsv.gotBins := true })) ∧
      (Taken s source 43 [tag] →
        (s.lsv.gotLane = false ∨ s.lsv.gotBins = false → exec (.configDone source [tag] lines) s
          = .next (replied source tag 43 .configIncomplete [] (atCommand s source))) ∧
        (s.lsv.gotLane = true → s.lsv.gotBins = true → exec (.configDone source [tag] lines) s
          = .next (replied source tag 43 .ok [] (settle (enterPurging { atCommand s source with lines := lines })))))) ∧
    (∀ (loop : Slot) (enabled : Bool) (b : State), b = { s with
        alm.loops := s.alm.loops.set loop { s.alm.loops.get loop with enabled := enabled } } →
      (enabled = false ∨ (s.alm.loops.get loop).enabled = true ∨ (s.alm.loops.get loop).state = .normal →
        setEnable loop enabled s = b) ∧
      (enabled = true → (s.alm.loops.get loop).enabled = false →
        ((s.alm.loops.get loop).state = .opened → loop = .three → s.alm.serviceWindow = true → setEnable loop enabled s = b) ∧
        ((s.alm.loops.get loop).state = .opened → loop ≠ .three ∨ s.alm.serviceWindow = false →
          setEnable loop enabled s = latchKinds (loopKind loop) b) ∧
        ((s.alm.loops.get loop).state = .short →
          setEnable loop enabled s = latchKinds { AlarmSet.empty with tamper := true } b))) ∧
    (loopKind .one = { AlarmSet.empty with duress := true } ∧ loopKind .two = { AlarmSet.empty with tamper := true }
      ∧ loopKind .three = { AlarmSet.empty with cabinet := true } ∧ loopKind .four = { AlarmSet.empty with bin := true }) ∧
    (∀ c : Cassette,
      (c.denomination = 0 → casJudge c = { c with state := .unused }) ∧
      (c.denomination ≠ 0 → c.present = false → casJudge c = { c with state := .absent }) ∧
      (c.denomination ≠ 0 → c.present = true →
        (c.count = 0 → casJudge c = { c with state := .empty }) ∧
        (1 ≤ c.count → c.count ≤ c.lowMark → casJudge c = { c with state := .low }) ∧
        (1 ≤ c.count → c.lowMark < c.count → casJudge c = { c with state := .ok })))

/-! ### Cassette lines, transport and gauge -/

/-- CASSETTE_REMOVED and CASSETTE_INSERTED: the line of a slot that is not UNUSED takes the record to ABSENT with count and
mispicks 0 and an event, an ABSENT slot's takes it to EMPTY with an event; an UNUSED slot shows no more than the level, and
what is configured stays. A dispense that picks from a slot no longer eligible withdraws the transport, any other is not
touched. -/
def Obligations.CassetteLines : Prop :=
  ∀ (s : State) (k : Slot) (c : Cassette), c = s.cas.get k →
    (c.present = true →
      (c.state ≠ .unused →
        ∀ gone, gone = { c with present := false, state := .absent, count := 0, mispicks := 0 } →
        exec (.cassetteRemoved k) s
          = .next (settle (dspSlotCheck (queueEvent 52 (be1 k.number ++ be1 1 ++ be2 0 ++ be1 0)
              { begun s with cas := s.cas.set k gone })))) ∧
      (c.state = .unused → exec (.cassetteRemoved k) s
        = .next (settle (dspSlotCheck { begun s with cas := s.cas.set k { c with present := false } })))) ∧
    (c.present = false →
      (c.state = .absent →
        ∀ seated, seated = { c with present := true, state := .empty, count := 0, mispicks := 0 } →
        exec (.cassetteInserted k) s
          = .next (dspSlotCheck (queueEvent 52 (be1 k.number ++ be1 4 ++ be2 0 ++ be1 1)
              { begun s with cas := s.cas.set k seated }))) ∧
      (c.state ≠ .absent → exec (.cassetteInserted k) s
        = .next (dspSlotCheck { begun s with cas := s.cas.set k { c with present := true } }))) ∧
    (∀ t : State, t.dsp.state ≠ .picking ∨ t.dsp.withdrawPending = true ∨ entryIn .active t.dsp.pickList = none
        ∨ (∃ e, entryIn .active t.dsp.pickList = some e ∧ (e.kind ≠ .pick ∨ (t.cas.get e.slot).state.eligible = true)) →
      dspSlotCheck t = t) ∧
    (∀ (t w : State) (e : Entry), t.dsp.state = .picking → t.dsp.withdrawPending = false →
      entryIn .active t.dsp.pickList = some e → e.kind = .pick → (t.cas.get e.slot).state.eligible = false →
      w = { t with ntg.order := none, dsp.withdrawPending := true } →
      (t.ntg.state = .feeding → t.ntg.records ≠ [] → dspSlotCheck t = { w with ntg.state := .draining }) ∧
      (t.ntg.state = .feeding → t.ntg.records = [] → dspSlotCheck t = dspOnClear { w with ntg.state := .idle }) ∧
      (t.ntg.state = .baseline → dspSlotCheck t = dspOnClear { w with ntg.state := .idle, ntg.valid := false }) ∧
      (t.ntg.state = .idle ∨ t.ntg.state = .draining ∨ t.ntg.state = .purge ∨ t.ntg.state = .halted → dspSlotCheck t = w))

/-- TRANSPORT_STALL, LONG_OBJECT, NO_EXIT and EXIT_BLOCKED: the transport halts with its cause, the order dropped, records and
diverter kept; an exit sensor that has stayed covered for fewer than 200 pulses, an object below twice the nominal length of its
cassette (400 for an unknown one) and 40 pulses, and 79 pulses since a trailing edge halt nothing, nor does a stopped transport.
While the motor is driven the marks of every record and the pulses since the start rise by the pulses counted, and while it is
stopped they stay. Outside a purge run this is a JAM for dispense engine and lane, in one the purge fails. A fault report takes
a working lane to FAULT and is held in SERVICE; a dispense it meets ends with reason JAM. Pulses are operands (log 4); a lane
fault stops the transport as log 32 says, and a reason recorded while the RESERVE is in transmission gives way to JAM alone (log
16). -/
def Obligations.TransportHalts : Prop :=
  (∀ (s : State) (c : Instr) (path : PathCount) (cause : HaltCause) (n : Ntg), n = ntgAdvance path s.ntg →
    s.ntg.state.motor = true →
    (c = .transportStall path ∧ cause = .stall)
      ∨ (c = .longObject path ∧ cause = .longObject ∧ s.ntg.edge = true ∧ ∃ r m, firstOf .atGauge n.records = some r
          ∧ r.sinceLead = some m ∧ longLimit (nominalOf s.cas r.slot) ≤ m)
      ∨ (c = .noExit path ∧ cause = .noExit ∧ ∃ r ∈ n.records, r.stage = .pastGauge ∧ ∃ m, r.sinceTrail = some m ∧ 80 ≤ m)
      ∨ (c = .exitBlocked path ∧ cause = .exitBlocked ∧ ∃ m, (n.exitS = some m ∨ n.exitR = some m) ∧ 200 ≤ m) →
    (s.ntg.state ≠ .purge → exec c s = .next (settle (faultReport (dspFault
      { begun s with ntg := { n with state := .halted, cause := cause, order := none } })))) ∧
    (s.ntg.state = .purge → s.lsv.lane = .purging → s.dsp.state = .purging → s.dsp.dispensing = false →
      exec c s = .next (settle { begun s with
        ntg := { n with state := .halted, cause := cause, order := none }, dsp.state := .fault, lsv.lane := .fault }))) ∧
  (∀ (s : State) (path : PathCount) (n : Ntg), n = ntgAdvance path s.ntg →
    ((∀ m, n.exitS = some m ∨ n.exitR = some m → m < 200) → exec (.exitBlocked path) s = .next { begun s with ntg := n }) ∧
    (s.ntg.edge = false ∨ firstOf .atGauge n.records = none
        ∨ (∃ r m, firstOf .atGauge n.records = some r ∧ r.sinceLead = some m ∧ m < longLimit (nominalOf s.cas r.slot)) →
      exec (.longObject path) s = .next { begun s with ntg := n }) ∧
    ((∀ r ∈ n.records, r.stage = .pastGauge → ∀ m, r.sinceTrail = some m → m < 80) →
      exec (.noExit path) s = .next { begun s with ntg := n }) ∧
    (s.ntg.state.motor = false →
      exec (.transportStall path) s = .next { begun s with ntg := n } ∧ exec (.longObject path) s = .next { begun s with ntg := n }
      ∧ exec (.noExit path) s = .next { begun s with ntg := n } ∧ exec (.exitBlocked path) s = .next { begun s with ntg := n })) ∧
  (∀ (cas : Four Cassette) (nominal : Nat), longLimit nominal = 2 * nominal + 40
    ∧ (∀ k, nominalOf cas (some k) = (cas.get k).nominal) ∧ nominalOf cas none = 400) ∧
  (∀ st : NtgState, st.motor = true ↔ st = .baseline ∨ st = .feeding ∨ st = .draining ∨ st = .purge) ∧
  (∀ (n : Ntg) (path : PathCount),
    (n.state.motor = true → ntgAdvance path n = { n with
      sinceStart := n.sinceStart + path.pulses,
      records := n.records.map (fun r => { r with
        sincePick := r.sincePick.map (· + path.pulses), sinceLead := r.sinceLead.map (· + path.pulses),
        sinceTrail := r.sinceTrail.map (· + path.pulses) }),
      exitS := (ntgAdvance path n).exitS, exitR := (ntgAdvance path n).exitR, clearFor := (ntgAdvance path n).clearFor }) ∧
    (n.state.motor = false → ntgAdvance path n = { n with
      exitS := if path.clearedS = none then n.exitS else none, exitR := if path.clearedR = none then n.exitR else none })) ∧
  (∀ (n : Ntg) (path : PathCount), n.state.motor = true →
    (∀ m, n.exitS = some m → path.clearedS = none → (ntgAdvance path n).exitS = some (m + path.pulses)) ∧
    (∀ m, n.exitR = some m → path.clearedR = none → (ntgAdvance path n).exitR = some (m + path.pulses)) ∧
    (path.clearedS ≠ none → (ntgAdvance path n).exitS = none) ∧ (path.clearedR ≠ none → (ntgAdvance path n).exitR = none)) ∧
  (∀ s : State,
    (s.lsv.lane = .purging ∨ s.lsv.lane = .listening ∨ s.lsv.lane = .closed ∨ s.lsv.lane = .opened →
      faultReport s = dspFault { s with lsv.lane := .fault }) ∧
    (s.lsv.lane = .service → faultReport s = { s with lsv.heldFault := true }) ∧
    (s.lsv.lane = .fault → faultReport s = s) ∧
    (s.dsp.state = .idle ∨ s.dsp.state = .fault → dspFault s = s) ∧
    (s.dsp.state = .reserving →
      (s.reserveSending = false → dspFault s = dspEnd .jam .fault (dropWall (.reserve s.dsp.amount) s)) ∧
      (s.reserveSending = true → dspFault s = { s with dsp.pendingEnd := some .jam })) ∧
    (s.dsp.state = .purging →
      (s.dsp.dispensing = false → dspFault s = s) ∧
      (s.dsp.dispensing = true →
        dspFault s = dspEnd .jam .fault { s with ntg := ntgStop s.ntg, dsp.pendingEnd := some .jam })) ∧
    (s.dsp.state = .baseline ∨ s.dsp.state = .picking ∨ s.dsp.state = .stacked ∨ s.dsp.state = .presenting
        ∨ s.dsp.state = .suspended → dspFault s = dspEnd .jam .fault { s with ntg := ntgStop s.ntg }))

/-- BASELINE_GATE_CLOSED: both counts in 256 to 65,534 make the pair valid, the transport FEEDING and the first entry
ACTIVE; another pair is kept for QUERY, stops the transport and ends the dispense with GAUGE_FAULT. Counters saturate at
65,535. The first PENDING entry becomes ACTIVE: a PICK from an eligible slot gives the transport its order with the stack
target, one the transport refuses ends the dispense with GAUGE_FAULT, one from another slot suspends it (with the transport
withdrawn, log 24), and a PRESENT or PRESENT_FINAL entry stops the transport and posts the notes request. -/
def Obligations.BaselineGate : Prop :=
  (∀ (s : State) (path : PathCount) (cyclesL cyclesR l r : Nat) (n : Ntg), n = ntgAdvance path s.ntg →
    s.ntg.state = .baseline → 16 + s.ntg.gateLength ≤ s.ntg.sinceStart + path.pulses →
    l = min 65535 cyclesL → r = min 65535 cyclesR → s.dsp.state = .baseline →
    (256 ≤ l → l ≤ 65534 → 256 ≤ r → r ≤ 65534 → exec (.baselineGateClosed path cyclesL cyclesR) s
      = .next (settle (dspActivate { begun s with
          ntg := { n with c0L := l, c0R := r, valid := true, state := .feeding }, dsp.state := .picking }))) ∧
    (l < 256 ∨ 65534 < l ∨ r < 256 ∨ 65534 < r → exec (.baselineGateClosed path cyclesL cyclesR) s
      = .next (settle (dspEndByPurge .gaugeFault { begun s with
          ntg := { n with c0L := l, c0R := r, valid := false, state := .idle, order := none } })))) ∧
  (∀ s : State,
    (entryIn .pending s.dsp.pickList = none → dspActivate s = s) ∧
    (∀ (e : Entry) (a : State) (order : PickOrder), entryIn .pending s.dsp.pickList = some e →
      a = { s with dsp.pickList := changeEntry .pending (fun e => { e with state := .active }) s.dsp.pickList } →
      order = { slot := e.slot, target := s.dsp.stackerCount + e.wanted - e.done } →
      (e.kind = .pick → (s.cas.get e.slot).state = .ok ∨ (s.cas.get e.slot).state = .low →
        (s.ntg.state = .feeding ∨ s.ntg.state = .draining ∨ (s.ntg.state = .idle ∧ s.ntg.valid = true) →
          dspActivate s = { a with ntg.state := .feeding, ntg.order := some order }) ∧
        ((s.ntg.state = .idle ∧ s.ntg.valid = false) ∨ s.ntg.state = .purge ∨ s.ntg.state = .halted →
          dspActivate s = dspEndByPurge .gaugeFault a)) ∧
      (e.kind = .pick → (s.cas.get e.slot).state ≠ .ok → (s.cas.get e.slot).state ≠ .low → dspActivate s
        = { a with ntg := (ntgWithdraw s.ntg).1, dsp.state := .suspended, dsp.suspendTimer := some 60000 }) ∧
      (e.kind ≠ .pick → dspActivate s = { a with
        ntg := (ntgWithdraw s.ntg).1, dsp.state := .stacked, drw.blocked := false,
        drw.pendingReq := some { bundle := s.dsp.bundle, count := s.dsp.stackerCount,
                                 final := decide (e.kind = .presentFinal) } })))

/-- EDGE_COVERED, MISPICK and NOTE_GATE_CLOSED: an object reaching the gauge within its window starts its record's marks, one
that no pick accounts for halts the transport, or in a purge run has a record of its own; a pick without a leading edge for 120
pulses ends and is counted against its slot; a gate that closes with the object present gives its counts, indices and gauge class.
What a mispick does to the record: one more consecutive mispick, and the third makes an OK or LOW record EMPTY with an event of
cause MISPICKS; an EMPTY one counts up to 3, and an ABSENT or UNUSED one is left alone. The last record to leave a draining
transport stops it, and the dispense engine is told it is clear. Pulses are operands (log 4). -/
def Obligations.EdgeMispickAndGate : Prop :=
  (∀ (s : State) (path : PathCount) (n : Ntg), n = ntgAdvance path s.ntg →
    (s.ntg.edge = false → s.ntg.state = .feeding ∨ s.ntg.state = .draining ∨ s.ntg.state = .purge →
      (∀ r m, firstOf .picked n.records = some r → r.sincePick = some m → m < 120 → exec (.edgeCovered path) s
        = .next (settle { begun s with ntg := { n with
            edge := true,
            records := changeFirst .picked (fun r => { r with stage := .atGauge, sinceLead := some 0 }) n.records } })) ∧
      (firstOf .picked n.records = none →
        (s.ntg.state ≠ .purge → exec (.edgeCovered path) s
          = .next (settle (ntgJam .strayObject { begun s with ntg := { n with edge := true } }))) ∧
        (s.ntg.state = .purge → exec (.edgeCovered path) s
          = .next (settle { begun s with ntg := { n with edge := true, records := n.records ++ [{
              slot := none, stage := .atGauge, sincePick := none, sinceLead := some 0, sinceTrail := none, counts := none,
              indices := none, length := none, gauge := none, lengthClass := none, outcome := none, reason := none,
              estimate := none, route := none, purge := true }] } })))) ∧
    (s.ntg.edge = false → s.ntg.state = .baseline → exec (.edgeCovered path) s
      = .next (settle (ntgJam .strayObject { begun s with ntg := { n with edge := true } }))) ∧
    (∀ r m k, s.ntg.state = .feeding ∨ s.ntg.state = .draining ∨ s.ntg.state = .purge → firstOf .picked n.records = some r →
      r.sincePick = some m → 120 ≤ m → r.slot = some k →
      exec (.mispick path) s = .next (settle (checkDrained (casReport k casMispick
        { begun s with ntg := { n with records := removeFirst .picked n.records } })))) ∧
    (∀ r m k cyclesL cyclesR, s.ntg.edge = true → s.ntg.state = .feeding ∨ s.ntg.state = .draining →
      firstOf .atGauge n.records = some r → r.counts = none → r.sinceLead = some m → 16 + s.ntg.gateLength ≤ m →
      r.slot = some k → ∀ l t : Nat × Nat, l = (min 65535 cyclesL, min 65535 cyclesR) →
      t = (thickness s.ntg.c0L l.1, thickness s.ntg.c0R l.2) →
      ∀ close : ObjRec → ObjRec, close = (fun r => { r with
        counts := some l, indices := some t,
        gauge := some (gaugeClass (channelClass t.1 (s.cas.get k).ref8L) (channelClass t.2 (s.cas.get k).ref8R)) }) →
      exec (.noteGateClosed path cyclesL cyclesR) s
        = .next { begun s with ntg := { n with records := changeFirst .atGauge close n.records } })) ∧
  (∀ (s : State) (k : Slot) (c : Cassette), c = s.cas.get k →
    (c.state = .unused ∨ c.state = .absent → casReport k casMispick s = dspSlotCheck s) ∧
    (c.state = .empty → casReport k casMispick s
      = dspSlotCheck { s with cas := s.cas.set k { c with mispicks := min 3 (c.mispicks + 1) } }) ∧
    (c.state = .ok ∨ c.state = .low →
      (c.mispicks < 2 → casReport k casMispick s
        = dspSlotCheck { s with cas := s.cas.set k { c with mispicks := c.mispicks + 1 } }) ∧
      (2 ≤ c.mispicks → casReport k casMispick s
        = dspSlotCheck (queueEvent 52 (be1 k.number ++ be1 4 ++ be2 0 ++ be1 4)
            { s with cas := s.cas.set k { c with mispicks := 3, count := 0, state := .empty } })))) ∧
  (∀ s : State,
    (s.ntg.state = .draining → s.ntg.records = [] →
      checkDrained s = dspOnClear { s with ntg.state := .idle, ntg.order := none }) ∧
    (s.ntg.state ≠ .draining ∨ s.ntg.records ≠ [] → checkDrained s = s))

/-- TRAILING_EDGE outside a purge run: the record takes its length, outcome, reason, estimate and route and is PAST_GAUGE; its
estimate leaves the slot's count; an ACCEPT, and no other outcome, moves both references an eighth of the way to the new index,
within 8 to 8,184; the last measured object shows the record's fields. TRAILING_EDGE in a purge run: the object is on its way to
the reject exit with reason PURGED and note estimate 1 where it had none, its length and a mark of 0 since the trailing edge,
and one that had left its slot unreported is taken from the slot's count as one note. What a delivery does to the record of its
slot: the mispicks are 0 again and the count falls by the estimate, to 0 at the least; at 0 the record is EMPTY with an event of
cause EMPTIED, an OK record that falls to its low mark is LOW with an event of cause LOW_MARK, and an EMPTY one stays at 0. What
a measurement makes of a record: an object no longer than the gate has no gauge class, an ACCEPT is SINGLE and of a length
within 12 pulses of its cassette's, the reject reason is the gauge class before the length class, and the estimate is the larger
of the two. Pulses are operands (log 4). -/
def Obligations.TrailingEdges : Prop :=
  (∀ (s : State) (path : PathCount) (n : Ntg) (r m : ObjRec) (k : Slot) (estimate : Nat),
     n = ntgAdvance path s.ntg → s.ntg.edge = true → s.ntg.state = .feeding ∨ s.ntg.state = .draining →
     firstOf .atGauge n.records = some r → r.slot = some k → m = measured s.cas s.ntg.gateLength r →
     m.estimate = some estimate → ∀ b, b = casReport k (casDeliver estimate) { begun s with ntg := { n with
       edge := false, records := changeFirst .atGauge (fun _ => m) n.records, last := some (lastOf m) } } →
     (∀ tL tR, m.outcome = some .accept → m.indices = some (tL, tR) → exec (.trailingEdge path) s
       = .next (settle { b with cas := b.cas.set k { b.cas.get k with
           ref8L := clampTo 8 8184 ((b.cas.get k).ref8L + tL - (b.cas.get k).ref8L / 8),
           ref8R := clampTo 8 8184 ((b.cas.get k).ref8R + tR - (b.cas.get k).ref8R / 8) } })) ∧
     (m.outcome = some .reject → exec (.trailingEdge path) s = .next (settle b))) ∧
  (∀ (s : State) (path : PathCount) (n : Ntg) (r : ObjRec), n = ntgAdvance path s.ntg → s.ntg.edge = true →
     s.ntg.state = .purge → firstOf .atGauge n.records = some r → ∀ b, b = { begun s with ntg := { n with
       edge := false, records := changeFirst .atGauge (purgedEdge s.cas) n.records } } →
     (∀ k, r.slot = some k → r.estimate = none →
       exec (.trailingEdge path) s = .next (settle (casReport k (casDeliver 1) b))) ∧
     (r.slot = none ∨ r.estimate ≠ none → exec (.trailingEdge path) s = .next (settle b)) ∧
     (purgedEdge s.cas r).route = some .reject ∧ (purgedEdge s.cas r).reason = some .purged
       ∧ (purgedEdge s.cas r).stage = .pastGauge ∧ (purgedEdge s.cas r).estimate = some (r.estimate.getD 1)
       ∧ (purgedEdge s.cas r).slot = r.slot ∧ (purgedEdge s.cas r).sinceTrail = some 0
       ∧ (purgedEdge s.cas r).outcome = some .reject ∧ (purgedEdge s.cas r).purge = true
       ∧ (∀ length, r.sinceLead = some length → (purgedEdge s.cas r).length = some length)) ∧
  (∀ (m : ObjRec) (length estimate : Nat) (l : LengthClass) (o : ObjOutcome), m.length = some length →
     m.lengthClass = some l → m.outcome = some o → m.estimate = some estimate → lastOf m = {
       slot := m.slot, indices := m.indices, length := length, gauge := m.gauge, lengthClass := l, outcome := o,
       reason := m.reason, estimate := estimate }) ∧
  (∀ (s : State) (k : Slot) (c after : Cassette) (estimate : Nat), c = s.cas.get k →
     after = { c with count := c.count - estimate, mispicks := 0 } →
     (c.state = .unused ∨ c.state = .absent → casReport k (casDeliver estimate) s = dspSlotCheck s) ∧
     (c.state = .empty → casReport k (casDeliver estimate) s
       = dspSlotCheck { s with cas := s.cas.set k { c with count := 0, mispicks := 0 } }) ∧
     (c.state = .ok ∨ c.state = .low → c.denomination ≠ 0 → c.present = true →
       (c.count ≤ estimate → casReport k (casDeliver estimate) s
         = dspSlotCheck (queueEvent 52 (be1 k.number ++ be1 4 ++ be2 0 ++ be1 3)
             { s with cas := s.cas.set k { after with state := .empty } })) ∧
       (estimate < c.count → c.count - estimate ≤ c.lowMark →
         (c.state = .ok → casReport k (casDeliver estimate) s
           = dspSlotCheck (queueEvent 52 (be1 k.number ++ be1 3 ++ be2 (c.count - estimate) ++ be1 2)
               { s with cas := s.cas.set k { after with state := .low } })) ∧
         (c.state = .low → casReport k (casDeliver estimate) s
           = dspSlotCheck { s with cas := s.cas.set k { after with state := .low } })) ∧
       (estimate < c.count → c.lowMark < c.count - estimate → casReport k (casDeliver estimate) s
         = dspSlotCheck { s with cas := s.cas.set k { after with state := .ok } }))) ∧
  (∀ (cas : Four Cassette) (gateLength length : Nat) (k : Slot) (r m : ObjRec) (l : LengthClass), r.slot = some k →
     r.sinceLead = some length → m = measured cas gateLength r →
     (length + 12 < (cas.get k).nominal → l = .short) → ((cas.get k).nominal + 12 < length → l = .chained) →
     ((cas.get k).nominal ≤ length + 12 → length ≤ (cas.get k).nominal + 12 → l = .ok) →
     m.stage = .pastGauge ∧ m.sinceTrail = some 0 ∧ m.length = some length ∧ m.lengthClass = some l ∧ m.slot = r.slot
       ∧ m.purge = r.purge
     ∧ (length ≤ 16 + gateLength → m.gauge = none ∧ m.counts = none ∧ m.indices = none)
     ∧ (16 + gateLength < length → m.gauge = r.gauge ∧ m.counts = r.counts ∧ m.indices = r.indices)
     ∧ (m.gauge = some .single → l = .ok → m.outcome = some .accept ∧ m.route = some .stacker ∧ m.reason = none)
     ∧ (m.gauge ≠ some .single ∨ l ≠ .ok → m.outcome = some .reject ∧ m.route = some .reject)
     ∧ (m.gauge = some .thin → m.reason = some .thin) ∧ (m.gauge = some .folded → m.reason = some .folded)
     ∧ (m.gauge = some .double → m.reason = some .double) ∧ (m.gauge = some .multiple → m.reason = some .multiple)
     ∧ (m.gauge = none ∨ m.gauge = some .single →
         (l = .short → m.reason = some .short) ∧ (l = .chained → m.reason = some .chained))
     ∧ (m.gauge = some .multiple → m.estimate = some 3)
     ∧ (m.gauge ≠ some .multiple → (m.gauge = some .double ∨ l = .chained → m.estimate = some 2)
         ∧ (m.gauge ≠ some .double → l ≠ .chained → m.estimate = some 1)))

/-- EXIT_ARRIVAL: the exit sensor's covered pulses start at 0 and the oldest PAST_GAUGE record is handed over with its exit; an
ACCEPT in the stacker counts its value as delivered and may finish its entry, a reject its estimate into the reject bin, with
the 13th reject event ending the dispense, and an object that left by the stacker against its route halts the transport; an
arrival that no record accounts for is not acted on. In a purge run each arrival at the reject exit goes into the reject bin,
one with no record as an unknown object of estimate 1; a hand-over that the capacity cuts short halts the run with
PURGE_STOPPED, an arrival at the stacker exit with DIVERT_FAULT, and the purge fails. An object of unknown slot has no value and
no slot's picked count. Pulses are operands (log 4), and a purge run's notes are not counted into the dispense (log 17). That a
stacker arrival that fails a purge run leaves its record in the list is log 46; that an IDLE transport with records hands
nothing over is log 32. -/
def Obligations.ExitArrivals : Prop :=
  (∀ (s : State) (path : PathCount) (a : Ntg) (r : ObjRec) (rest : List ObjRec),
    a = ntgAdvance path s.ntg → firstOf .pastGauge a.records = some r → rest = removeFirst .pastGauge a.records →
    ∀ stacker reject, stacker = { begun s with ntg := { a with records := rest, exitS := some 0 } } →
    reject = { begun s with ntg := { a with records := rest, exitR := some 0 } } →
    (s.ntg.state = .feeding ∨ s.ntg.state = .draining →
      (r.route = some .stacker → r.outcome = some .accept → exec (.exitArrival path .stacker) s
        = .next (settle (checkDrained (dspStacked
            { slot := r.slot, outcome := .accept, reason := r.reason, estimate := r.estimate.getD 1, exit := .stacker }
            stacker)))) ∧
      (r.route = some .stacker → exec (.exitArrival path .reject) s
        = .next (settle (checkDrained (dspRejected
            { slot := r.slot, outcome := .reject, reason := some .diverted, estimate := 1, exit := .reject } reject)))) ∧
      (r.route = some .reject → r.outcome = some .reject → exec (.exitArrival path .reject) s
        = .next (settle (checkDrained (dspRejected
            { slot := r.slot, outcome := .reject, reason := r.reason, estimate := r.estimate.getD 1, exit := .reject }
            reject)))) ∧
      (r.route = some .reject → r.outcome = some .reject → exec (.exitArrival path .stacker) s
        = .next (settle (ntgJam .divertFault { stacker with
            dsp := addPicked r.slot (r.estimate.getD 1) { s.dsp with stackerCount := s.dsp.stackerCount + 1 } }))))) ∧
  (∀ (s : State) (path : PathCount) (a : Ntg) (stacker reject : State), a = ntgAdvance path s.ntg →
    stacker = { begun s with ntg := { a with exitS := some 0 } } →
    reject = { begun s with ntg := { a with exitR := some 0 } } →
    (s.ntg.state = .feeding ∨ s.ntg.state = .draining → firstOf .pastGauge a.records = none →
      exec (.exitArrival path .stacker) s = .next (settle stacker) ∧
      exec (.exitArrival path .reject) s = .next (settle reject)) ∧
    (s.ntg.state = .idle ∨ s.ntg.state = .baseline ∨ s.ntg.state = .halted →
      exec (.exitArrival path .stacker) s = .next stacker ∧ exec (.exitArrival path .reject) s = .next reject) ∧
    (s.ntg.state = .purge → ∀ (lane : LaneState) (estimate : Nat) (counted : State),
      lane = (if s.lsv.lane = .purging then .fault else s.lsv.lane) →
      estimate = ((firstOf .pastGauge a.records).bind (fun r => r.estimate)).getD 1 →
      counted = { reject with
        ntg.records := removeFirst .pastGauge a.records, ntg.purged := s.ntg.purged + 1,
        dsp.rejectCount := min s.dsp.rejectCap (s.dsp.rejectCount + estimate) } →
      (s.dsp.rejectCount + estimate ≤ s.dsp.rejectCap →
        exec (.exitArrival path .reject) s = .next (settle counted)) ∧
      (s.dsp.state = .purging → s.dsp.dispensing = false →
        (s.dsp.rejectCap < s.dsp.rejectCount + estimate →
          exec (.exitArrival path .reject) s = .next (settle { counted with
            dsp.overflow := true, dsp.state := .fault, lsv.lane := lane,
            ntg.state := .halted, ntg.cause := .purgeStopped, ntg.order := none })) ∧
        exec (.exitArrival path .stacker) s = .next (settle { stacker with
          dsp.state := .fault, lsv.lane := lane,
          ntg.state := .halted, ntg.cause := .divertFault, ntg.order := none })))) ∧
  (∀ (stage : Stage) (r : ObjRec) (rest : List ObjRec), removeFirst stage [] = [] ∧
    removeFirst stage (r :: rest) = if r.stage = stage then rest else r :: removeFirst stage rest) ∧
  (∀ (d : Dsp) (n : Nat), addPicked none n d = d
    ∧ ∀ k, addPicked (some k) n d = { d with picked := d.picked.set k (d.picked.get k + n) }) ∧
  (∀ (s b : State) (object : Routed) (value : Nat) (picked : Four Nat),
    (object.slot = none → value = 0 ∧ picked = s.dsp.picked) →
    (∀ k, object.slot = some k →
      value = (s.cas.get k).denomination ∧ picked = s.dsp.picked.set k (s.dsp.picked.get k + 1)) →
    b = { s with
      dsp.stackerCount := s.dsp.stackerCount + 1, dsp.delivered := s.dsp.delivered + value,
      dsp.inStacker := s.dsp.inStacker + value, dsp.picked := picked } →
    ((∀ e, entryIn .active s.dsp.pickList = some e → e.kind ≠ .pick) → dspStacked object s = b) ∧
    (∀ e, entryIn .active s.dsp.pickList = some e → e.kind = .pick →
      (e.done + 1 ≠ e.wanted → dspStacked object s = { b with
        dsp.pickList := changeEntry .active (fun e => { e with done := e.done + 1 }) s.dsp.pickList }) ∧
      (e.done + 1 = e.wanted → ∀ finished, finished = { b with
          dsp.pickList := changeEntry .active (fun e => { e with done := e.done + 1, state := .done }) s.dsp.pickList } →
        (s.dsp.state = .picking → s.dsp.withdrawPending = false → dspStacked object s = dspActivate finished) ∧
        (s.dsp.state ≠ .picking ∨ s.dsp.withdrawPending = true → dspStacked object s = finished)))) ∧
  (∀ (s b : State) (object : Routed) (picked : Four Nat),
    (object.slot = none → picked = s.dsp.picked) →
    (∀ k, object.slot = some k → picked = s.dsp.picked.set k (s.dsp.picked.get k + object.estimate)) →
    b = { s with
      dsp.rejectCount := min s.dsp.rejectCap (s.dsp.rejectCount + object.estimate),
      dsp.overflow := s.dsp.overflow || decide (s.dsp.rejectCap < s.dsp.rejectCount + object.estimate),
      dsp.rejected := s.dsp.rejected + object.estimate, dsp.picked := picked } →
    (s.dsp.state ≠ .picking → dspRejected object s = b) ∧
    (s.dsp.state = .picking →
      (s.dsp.rejectEvents < 12 → dspRejected object s = { b with dsp.rejectEvents := s.dsp.rejectEvents + 1 }) ∧
      (12 ≤ s.dsp.rejectEvents → dspRejected object s = dspEndByPurge .tooManyRejects b)))

/-- PURGE_DONE and SUSPEND_TIMEOUT: a path that has held no record, a clear edge and clear exits together for 400 pulses
ends the purge run, the dispense engine is IDLE, and once the pocket survey has reported the lane is LISTENING with a
listen-in of 600 ms; fewer pulses end nothing; a suspension that lasts 60 s ends by way of a purge. The transport's report
that it is clear empties the stacker at the end of a dispense, and while a withdrawal waits it suspends a dispense whose
entry is not DONE, with 60 s on the timer, and else goes on with the next entry. Pulses are operands (log 4). -/
def Obligations.PurgeAndSuspendEnd : Prop :=
  (∀ (s : State) (path : PathCount) (n : Ntg), n = ntgAdvance path s.ntg → s.ntg.state = .purge →
    (400 ≤ n.clearFor → s.lsv.lane = .purging → s.dsp.state = .purging → s.dsp.dispensing = false →
      (s.lsv.stage = .surveyed → exec (.purgeDone path) s = .next (settle { begun s with
        ntg := { n with state := .idle }, lsv.transportDone := true, dsp.state := .idle, lsv.lane := .listening,
        pt.listenIn := some 600 })) ∧
      (s.lsv.stage ≠ .surveyed → exec (.purgeDone path) s = .next (settle { begun s with
        ntg := { n with state := .idle }, lsv.transportDone := true, dsp.state := .idle }))) ∧
    (n.clearFor < 400 → exec (.purgeDone path) s = .next { begun s with ntg := n })) ∧
  (∀ (n : Ntg) (path : PathCount), n.state.motor = true →
    (n.records ≠ [] ∨ n.edge = true ∨ (n.exitS ≠ none ∧ path.clearedS = none) ∨ (n.exitR ≠ none ∧ path.clearedR = none) →
      (ntgAdvance path n).clearFor = 0) ∧
    (n.records = [] → n.edge = false →
      (n.exitS = none → n.exitR = none → (ntgAdvance path n).clearFor = n.clearFor + path.pulses) ∧
      (∀ m since, n.exitS = none → n.exitR = some m → path.clearedR = some since →
        (ntgAdvance path n).clearFor = min (n.clearFor + path.pulses) (min since path.pulses)) ∧
      (∀ m since, n.exitR = none → n.exitS = some m → path.clearedS = some since →
        (ntgAdvance path n).clearFor = min (min since path.pulses) (n.clearFor + path.pulses)))) ∧
  (∀ s : State,
    (∀ ms, s.dsp.state = .suspended → s.dsp.suspendTimer = some ms →
      exec .suspendTimeout s = .next (settle (dspEndByPurge .suspendTimeout (begun s)))) ∧
    (s.dsp.state = .purging → s.dsp.dispensing = true → dspOnClear s = finishPurge s) ∧
    (s.dsp.state = .picking → s.dsp.withdrawPending = true →
      (∀ e, entryIn .active s.dsp.pickList = some e → dspOnClear s = { s with
        dsp.withdrawPending := false, dsp.state := .suspended, dsp.suspendTimer := some 60000 }) ∧
      (entryIn .active s.dsp.pickList = none → dspOnClear s = dspActivate { s with dsp.withdrawPending := false })) ∧
    ((s.dsp.state ≠ .purging ∨ s.dsp.dispensing = false) → (s.dsp.state ≠ .picking ∨ s.dsp.withdrawPending = false) →
      dspOnClear s = s))

/-! ### The drawer -/

/-- TRAY_CHANGE, TRANSFER_STROKE_END and RETURN_LOAD_TIMEOUT: the level is followed, and a tray that empties under a presented
item, once the drawer has reached OPEN for it, starts the tray-empty timer (after a take was reported as well: log 33); a load
phase that ends with a covered tray starts the travel, with a held retract order it brings the drawer home (with the
DRAWER_EVENT of an arrival: log 22), and with an empty tray, or with no report in 5 s, it jams the drawer with cause LOAD. A
jam switches the drive off, queues its event with the tray level in one byte (log 18), reports a fault, tells the user of its
purpose unless told before, and drops what is pending with its blocked mark (log 30); the pocket decides a jammed return from its
sensors, with more covered places than records left open (log 12). An expiry holds whenever its timer runs (log 1). -/
def Obligations.TrayAndLoadPhase : Prop :=
  (∀ (s : State) (lines : Lines),
    exec (.trayChange true) s = .next (settle { begun s with drw.tray := true, drw.trayEmpty := none }) ∧
    (s.drw.purpose.presents = true → s.drw.state = .opened ∨ s.drw.state = .retracting → s.drw.reachedOpen = true →
      s.drw.trayEmpty = none →
      exec (.trayChange false) s = .next (settle { begun s with drw.tray := false, drw.trayEmpty := some 1000 })) ∧
    (s.drw.purpose.presents = false ∨ s.drw.reachedOpen = false ∨ (s.drw.state ≠ .opened ∧ s.drw.state ≠ .retracting)
        ∨ s.drw.trayEmpty ≠ none →
      exec (.trayChange false) s = .next (settle { begun s with drw.tray := false })) ∧
    (s.drw.state = .extending → s.drw.phase = .load →
      (∀ ms, s.drw.stroke = some ms →
        (s.drw.tray = true → s.drw.hold = false → exec (.transferStrokeEnd lines) s
          = .next (settle { begun s with
              lines := lines, drw.stroke := none, drw.load := none, drw.phase := .travel, drw.motion := some 4000 })) ∧
        (s.drw.tray = true → s.drw.hold = true → exec (.transferStrokeEnd lines) s
          = .next (settle (drawerArrives
              { begun s with lines := lines, drw.stroke := none, drw.load := none, drw.obstructions := 0 }))) ∧
        (s.drw.tray = false → exec (.transferStrokeEnd lines) s
          = .next (settle (drawerJam .load { begun s with lines := lines, drw.stroke := none, drw.load := none })))) ∧
      (∀ ms, s.drw.load = some ms → exec (.returnLoadTimeout lines) s
        = .next (settle (drawerJam .load { begun s with lines := lines }))))) ∧
  (∀ (s j : State) (cause : DrwJam) (done : State → State),
    j = faultReport (queueEvent 56 (be1 4 ++ be1 s.drw.purpose.code ++ be1 s.drw.tray.toNat ++ be1 cause.code) { s with
      drw := { s.drw with
        state := .jammed, mode := .standing, jam := cause, motion := none, take := none, deposit := none,
        trayEmpty := none, obstruct := none, sweep := none, stroke := none, load := none, retractNext := false } }) →
    done = (fun t => { t with
      drw.purpose := .none, drw.pendingReq := none, drw.blocked := false, drw.returnSeq := none }) →
    (s.drw.reported = true ∨ s.drw.purpose.presents = false → drawerJam cause s = done j) ∧
    (s.drw.reported = false → s.drw.purpose = .notes →
      drawerJam cause s = done (if j.dsp.state = .presenting then dspEnd .jam .fault j else j)) ∧
    (s.drw.reported = false → s.drw.purpose = .ret → drawerJam cause s = done (pktJammed j))) ∧
  (∀ s : State,
    (∀ e rest, s.pkt.pocket = e :: rest → e.state = .returning →
      (s.coveredPlaces = rest.length + 1 → pktJammed s = { s with pkt.pocket := { e with state := .inPocket } :: rest }) ∧
      (s.coveredPlaces < rest.length + 1 →
        pktJammed s = queueEvent 54 (be3 e.seq ++ be1 3 ++ be1 rest.length) { s with pkt.pocket := rest })) ∧
    ((∀ e rest, s.pkt.pocket = e :: rest → e.state ≠ .returning) → pktJammed s = s))

/-- DRAWER_EXTENDED, DRAWER_HOME and DRAWER_MOTION_TIMEOUT: a drawer travelling out is OPEN, with the event and the timer of its
purpose; one that backed off waits 3 s, retracts at once where an order came meanwhile, or stands OPEN with the event and its
timer afresh after the third obstruction; one travelling in is CLOSED, and its arrival is dealt with by purpose and tray,
whatever brought the drawer home; a CLOSED drawer takes a purge that waits for it on to the intake's clear run, and nothing
else; a movement of more than 4 s jams the drawer with the cause of that movement. SAFETY_EDGE_PRESSED, SAFETY_EDGE_CLEARED and
OBSTRUCTION_WAIT_END: resistance while travelling in is counted and turns the drawer out again, OPEN, with the tray-empty timer
following; in every other state the edge is followed and no more; the retry begins after the wait, or once the edge clears. The
switch levels a step sets are the model's (log 31), as are the tray level's one byte in the events (log 18), the reported mark
at home (log 38) and an obstruction's counting as an arrival at OPEN (log 33). That an edge pressed already when a retraction
begins is no obstruction is log 42. -/
def Obligations.DrawerMovements : Prop :=
  (∀ (s : State) (lines : Lines),
     (s.drw.state = .extending → s.drw.phase = .travel →
       ∀ d b, d = { s.drw with state := .opened, mode := .standing, motion := none, reachedOpen := true } →
       b = { begun s with lines.ext := true, lines.home := false, drw := followTray s.drw.tray d } →
       (s.drw.purpose = .deposit → exec .drawerExtended s
         = .next (queueEvent 56 (be1 0 ++ be1 1 ++ be1 s.drw.tray.toNat ++ be1 0)
             { b with drw.deposit := some (s.drw.depositTimeout * 1000) })) ∧
       (s.drw.purpose = .ret → exec .drawerExtended s
         = .next (queueEvent 56 (be1 0 ++ be1 3 ++ be1 s.drw.tray.toNat ++ be1 0)
             { b with drw.take := some (s.drw.takeTimeout * 1000) })) ∧
       (∀ req, s.drw.purpose = .notes → s.drw.served = some req → exec .drawerExtended s
         = .next (queueEvent 50 (be1 req.bundle ++ be1 req.count)
             { b with drw.take := some (s.drw.takeTimeout * 1000) }))) ∧
     (s.drw.state = .opened → s.drw.mode = .backingOff →
       (s.drw.retractNext = false → s.drw.obstructions < 3 → exec .drawerExtended s
         = .next { begun s with
             lines.ext := true, lines.home := false, drw.motion := none, drw.mode := .waiting, drw.obstruct := some 3000 }) ∧
       (s.drw.retractNext = true → exec .drawerExtended s
         = .next { begun s with
             lines.ext := true, lines.home := false, drw := { s.drw with
               state := .retracting, mode := .standing, motion := some 4000, take := none, deposit := none,
               obstruct := none, retractNext := false } }) ∧
       (s.drw.retractNext = false → 3 ≤ s.drw.obstructions → ∀ b, b = { begun s with
           lines.ext := true, lines.home := false, drw.motion := none, drw.mode := .standing } →
         (s.drw.purpose = .deposit → exec .drawerExtended s
           = .next (queueEvent 56 (be1 2 ++ be1 1 ++ be1 s.drw.tray.toNat ++ be1 0)
               { b with drw.deposit := some (s.drw.depositTimeout * 1000) })) ∧
         (s.drw.purpose ≠ .deposit → exec .drawerExtended s
           = .next (queueEvent 56 (be1 2 ++ be1 s.drw.purpose.code ++ be1 s.drw.tray.toNat ++ be1 0)
               { b with drw.take := some (s.drw.takeTimeout * 1000) })))) ∧
     (s.drw.state = .retracting → exec (.drawerHome lines) s = .next (settle (drawerClosed (dealHome
       (queueEvent 56 (be1 1 ++ be1 s.drw.purpose.code ++ be1 s.drw.tray.toNat ++ be1 0)
         { begun s with
           lines := { lines with home := true, ext := false },
           drw := { s.drw with
             state := .closed, mode := .standing, motion := none, take := none, deposit := none, trayEmpty := none,
             obstruct := none, stroke := none, load := none, retractNext := false } }))))) ∧
     (∀ ms, s.drw.motion = some ms →
       (s.drw.state = .extending → exec (.drawerMotionTimeout lines) s
         = .next (settle (drawerJam .extendTime { begun s with lines := lines }))) ∧
       (s.drw.state = .retracting → exec (.drawerMotionTimeout lines) s
         = .next (settle (drawerJam .retractTime { begun s with lines := lines }))) ∧
       (s.drw.state = .opened → exec (.drawerMotionTimeout lines) s
         = .next (settle (drawerJam .backoffTime { begun s with lines := lines }))))) ∧
  (∀ s : State,
     (s.drw.state = .retracting → exec .safetyEdgePressed s = .next { begun s with
       drw.safe := true, drw.state := .opened, drw.mode := .backingOff, drw.obstructions := min 3 (s.drw.obstructions + 1),
       drw.motion := some 4000, drw.retractNext := false, drw.reachedOpen := true,
       drw.trayEmpty := if s.drw.tray then none
         else if s.drw.purpose.presents ∧ s.drw.trayEmpty = none then some 1000 else s.drw.trayEmpty }) ∧
     (s.drw.state ≠ .retracting → exec .safetyEdgePressed s = .next { begun s with drw.safe := true }) ∧
     (s.drw.state = .opened → s.drw.mode = .edgeWait → exec .safetyEdgeCleared s
       = .next { begun s with drw := beginRetraction { s.drw with safe := false } }) ∧
     (s.drw.state ≠ .opened ∨ s.drw.mode ≠ .edgeWait → exec .safetyEdgeCleared s
       = .next { begun s with drw.safe := false }) ∧
     (∀ ms, s.drw.state = .opened → s.drw.mode = .waiting → s.drw.obstruct = some ms →
       (s.drw.safe = false → exec .obstructionWaitEnd s = .next { begun s with drw := beginRetraction s.drw }) ∧
       (s.drw.safe = true → exec .obstructionWaitEnd s
         = .next { begun s with drw.mode := .edgeWait, drw.obstruct := none }))) ∧
  (∀ s served : State, served = { s with drw.purpose := .none, drw.returnSeq := none } →
     (s.drw.purpose.presents = true → s.drw.reported = true → dealHome s = served) ∧
     (s.drw.purpose = .notes → s.drw.reported = false →
       (s.drw.tray = true → dealHome s = { s with drw.sweep := some 1000 }) ∧
       (s.drw.tray = false → dealHome s = dspTaken served)) ∧
     (s.drw.purpose = .ret → s.drw.reported = false →
       (∀ q, s.drw.tray = true → s.drw.returnSeq = some q →
         dealHome s = queueEvent 55 (be1 1 ++ be3 q) (pktReturned .leftInTray served)) ∧
       (s.drw.tray = false → dealHome s = pktReturned .returned served)) ∧
     (s.drw.purpose = .deposit →
       (s.drw.tray = true → dealHome s = inkHand served) ∧ (s.drw.tray = false → dealHome s = served)) ∧
     (s.drw.purpose = .none →
       (s.drw.tray = true → dealHome s = queueEvent 55 (be1 2 ++ be3 0) s) ∧ (s.drw.tray = false → dealHome s = s))) ∧
  (∀ s : State,
     drawerArrives s = drawerClosed (dealHome (queueEvent 56 (be1 1 ++ be1 s.drw.purpose.code ++ be1 s.drw.tray.toNat ++ be1 0)
       { s with drw := { s.drw with
           state := .closed, mode := .standing, motion := none, take := none, deposit := none, trayEmpty := none,
           obstruct := none, stroke := none, load := none, retractNext := false } })) ∧
     (s.lsv.lane = .purging → s.lsv.stage = .drawer → drawerClosed s = clearRequest { s with lsv.stage := .intake }) ∧
     (s.lsv.lane ≠ .purging ∨ s.lsv.stage ≠ .drawer → drawerClosed s = s))

/-- TRAY_EMPTY_TIMEOUT, TAKE_TIMEOUT, DEPOSIT_TIMEOUT and SWEEP_END: a tray empty for 1 s means the item is taken, and the user
of the purpose is told, once (log 33); a drawer standing OPEN takes it as a retract order, any other goes on as it stands. A
take timer that runs out over an occupied tray, or after three obstructions, and a deposit timer, are retract orders; over an
empty tray the item is taken. A sweep that clears the tray puts the bundle into the retract bin, one that does not is reported
with its event, the tray level in one byte (log 18), to the dispense engine and the lane. What the reports make of the dispense:
a bundle taken is reported and counted, and ends it with LOCKDOWN or COMPLETE or begins the next bundle; one retracted goes into
the retract bin and ends it with LOCKDOWN or RETRACTED, and so does a failed sweep, into no bin. A record that is not RETURNING
takes no report. An expiry holds whenever its timer runs (log 1). That a take timer restarted after three obstructions makes no
take of an empty tray is log 48. -/
def Obligations.DrawerTimers : Prop :=
  (∀ (s taken : State) (c : Instr) (d : Drw),
    ((∃ ms, c = .trayEmptyTimeout ∧ s.drw.trayEmpty = some ms ∧ d = { s.drw with reported := true, trayEmpty := none })
      ∨ (∃ ms, c = .takeTimeout ∧ s.drw.take = some ms ∧ s.drw.tray = false ∧ s.drw.obstructions ≠ 3
          ∧ s.drw.purpose.presents = true ∧ d = { s.drw with take := none, reported := true, trayEmpty := none })) →
    taken = { begun s with drw := if s.drw.state = .opened ∧ s.drw.mode = .standing then retractOrder d else d } →
    (s.drw.reported = false → s.drw.purpose = .notes → exec c s = .next (settle (dspTaken taken))) ∧
    (s.drw.reported = false → s.drw.purpose = .ret → exec c s = .next (settle (pktReturned .returned taken))) ∧
    (s.drw.reported = true ∨ s.drw.purpose.presents = false → exec c s = .next (settle taken))) ∧
  (∀ s : State,
    (∀ ms, s.drw.take = some ms → s.drw.tray = true ∨ s.drw.obstructions = 3 ∨ s.drw.purpose.presents = false →
      exec .takeTimeout s = .next (settle { begun s with drw := retractOrder { s.drw with take := none } })) ∧
    (∀ ms, s.drw.deposit = some ms → exec .depositTimeout s
      = .next { begun s with drw := retractOrder { s.drw with deposit := none } }) ∧
    (∀ ms, s.drw.sweep = some ms →
      (s.drw.tray = false → exec .sweepEnd s = .next (settle (dspRetracted { begun s with
        drw := { s.drw with sweep := none, purpose := .none, returnSeq := none } }))) ∧
      (s.drw.tray = true → exec .sweepEnd s = .next (settle (faultReport (dspSweepFailed
        { queueEvent 56 (be1 3 ++ be1 2 ++ be1 1 ++ be1 0) { begun s with drw.sweep := none } with
          drw.purpose := .none, drw.returnSeq := none })))))) ∧
  (∀ s : State,
    (s.dsp.state ≠ .presenting → dspTaken s = s ∧ dspRetracted s = s ∧ dspSweepFailed s = s) ∧
    (s.dsp.state = .presenting →
      (∀ b, b = { queueEvent 51 (be1 s.dsp.bundle ++ be1 s.dsp.stackerCount ++ be3 s.dsp.inStacker) s with
          dsp.taken := s.dsp.taken + s.dsp.stackerCount, dsp.paid := s.dsp.paid + s.dsp.inStacker,
          dsp.stackerCount := 0, dsp.inStacker := 0,
          dsp.pickList := changeEntry .active (fun e => { e with state := .done }) s.dsp.pickList } →
        (s.dsp.lockMark = true → dspTaken s = dspEnd .lockdown .idle b) ∧
        (s.dsp.lockMark = false → s.dsp.cancelMark = true → dspTaken s = dspEnd .complete .idle b) ∧
        (∀ e, s.dsp.lockMark = false → s.dsp.cancelMark = false → entryIn .active s.dsp.pickList = some e →
          (e.kind = .presentFinal → dspTaken s = dspEnd .complete .idle b) ∧
          (e.kind = .present →
            dspTaken s = dspActivate { b with dsp.bundle := s.dsp.bundle + 1, dsp.state := .picking }))) ∧
      (∀ reason, reason = (if s.dsp.lockMark then EndReason.lockdown else EndReason.retracted) →
        dspRetracted s = dspEnd reason .idle { s with
          dsp.retractCount := min s.dsp.retractCap (s.dsp.retractCount + s.dsp.stackerCount),
          dsp.retracted := s.dsp.stackerCount } ∧
        dspSweepFailed s = dspEnd reason .idle s)) ∧
    (∀ (outcome : OutOutcome) (e : EnvRec) (rest : List EnvRec), s.pkt.pocket = e :: rest →
      (e.state = .returning → pktReturned outcome s
        = queueEvent 54 (be3 e.seq ++ be1 outcome.code ++ be1 rest.length) { s with pkt.pocket := rest }) ∧
      (e.state ≠ .returning → pktReturned outcome s = s)))

/-! ### Intake and imprinter -/

/-- INTAKE_LEADING_EDGE, NOT_DRAWN and PRINT_WINDOW_OPEN: a sensor covered within 200 pulses is the leading edge of the item
being drawn and starts its mark, in a reversal or an eject it is noted, and in another state it does nothing more; no leading
edge in 200 pulses ends the intake with a TRAY_ITEM; at pulse 40 a number is consumed and the window opens on the raster and
field as they stand. The number consumed is the first from the counter on that no record of the pocket carries, the value after
999,999 being 1, and the counter goes on to the value after it. A deposit's item starts an intake where the pocket has room and
waits where it has none, a sensor already covered jams the intake with STRAY, and a wait ends with the tray emptied or with an
intake. While the rollers are driven the marks since roller start and since the leading edge rise by the pulses counted, to
65,535 at most, and the clear pulses of a sensor that is clear rise with them; while they stand nothing rises. Pulses are
operands (log 4); that a change counts with its second pulse, at the position of the first, is R90's, and the leading edge at
the 200th pulse is log 41. -/
def Obligations.IntakeBegins : Prop :=
  (∀ (s : State) (pulses : Nat) (lines : Lines) (k : Ink), k = inkAdvance pulses s.ink →
     (s.ink.state = .drawing → k.record.sinceLead = none → k.record.sinceStart < 201 →
       exec (.intakeLeadingEdge pulses) s = .next { begun s with
         ink := { k with sensor := true, sinceClear := 0, record := { k.record with sinceLead := some 1 } } }) ∧
     (s.ink.state = .reversing ∨ s.ink.state = .ejecting → exec (.intakeLeadingEdge pulses) s
       = .next { begun s with ink := { k with sensor := true, sinceClear := 0, coveredInRun := true } }) ∧
     (s.ink.state ≠ .drawing → s.ink.state ≠ .reversing → s.ink.state ≠ .ejecting → exec (.intakeLeadingEdge pulses) s
       = .next { begun s with ink := { k with sensor := true, sinceClear := 0 } }) ∧
     (s.ink.state = .drawing → k.record.sinceLead = none → 200 ≤ k.record.sinceStart →
       ∀ b, b = { queueEvent 55 (be1 4 ++ be3 0) { begun s with
         lines := lines, ink := { k with record := { k.record with outcome := some .notDrawn } } } with ink.state := .idle } →
       (s.ink.clearPending = false → exec (.notDrawn pulses lines) s = .next (settle b)) ∧
       (s.ink.clearPending = true → exec (.notDrawn pulses lines) s
         = .next (settle (clearRequest { b with ink.clearPending := false })))) ∧
     (∀ m q, s.ink.state = .drawing → s.ink.sensor = true → k.record.sinceLead = some m → 40 ≤ m → q = s.takenSeq → q ≤ 999999 →
       exec (.printWindowOpen pulses) s = .next { begun s with
         ink := { k with
           seqCounter := if q = 999999 then 1 else q + 1, state := .printing,
           window := some { raster := s.ink.raster, page := s.ink.fieldPage, col := s.ink.fieldCol, seq := q },
           record := { k.record with seq := some q, strobed := some 0, skipped := some 0, hotSeen := some false } } })) ∧
  (∀ (k : Ink) (pulses : Nat),
     (k.state = .drawing ∨ k.state = .printing ∨ k.state = .seating ∨ k.state = .reversing ∨ k.state = .ejecting →
       inkAdvance pulses k = { k with
         record := { k.record with
           sinceStart := min 65535 (k.record.sinceStart + pulses),
           sinceLead := k.record.sinceLead.map (fun m => min 65535 (m + pulses)) },
         sinceClear := if k.sensor = true then 0 else k.sinceClear + pulses }) ∧
     (k.state = .idle ∨ k.state = .waiting ∨ k.state = .jammed → inkAdvance pulses k = k)) ∧
  (∀ (s : State) (next : Nat → Nat), isSequence s.ink.seqCounter → s.pkt.pocket.length ≤ 4 →
     next = (fun n => if n = 999999 then 1 else n + 1) →
     isSequence s.takenSeq ∧ (∀ e ∈ s.pkt.pocket, e.seq ≠ s.takenSeq)
     ∧ (∃ i, i ≤ 4 ∧ s.takenSeq = Nat.repeat next i s.ink.seqCounter
         ∧ ∀ j, j < i → ∃ e ∈ s.pkt.pocket, e.seq = Nat.repeat next j s.ink.seqCounter)
     ∧ consumeSeq s = { s with ink.seqCounter := next s.takenSeq }) ∧
  (∀ (s t : State) (drawn : IntakeRec), drawn = {
       kind := .intake, sinceStart := 0, sinceLead := none, seq := none,
       length := none, outcome := none, strobed := none, skipped := none, hotSeen := none, quality := none, jam := .none } →
     (s.ink.sensor = false → t = { s with ink := { s.ink with record := drawn, state := .drawing } }) →
     (s.ink.sensor = true → t = inkJam .stray { s with ink := { s.ink with record := drawn } }) →
     (s.ink.state = .idle ∨ s.ink.state = .waiting →
       (s.pkt.pocket.length < 4 → inkHand s = t) ∧
       (4 ≤ s.pkt.pocket.length → inkHand s = queueEvent 55 (be1 3 ++ be3 0) { s with ink.state := .waiting })) ∧
     (s.ink.state = .waiting →
       (s.drw.tray = false → settleInk s = { s with ink.state := .idle }) ∧
       (s.drw.tray = true → s.pkt.pocket.length < 4 → s.drw.state = .closed → s.drw.purpose = .none → settleInk s = t) ∧
       (s.drw.tray = true → 4 ≤ s.pkt.pocket.length ∨ s.drw.state ≠ .closed ∨ s.drw.purpose ≠ .none → settleInk s = s)) ∧
     (s.ink.state ≠ .waiting → settleInk s = s))

/-- PRINT_STROBE: a strobe whose burn may begin burns its column for (effective energy + 1) times 8 microseconds, with the
energy halved while HOT is active; one that comes while the last still burns is skipped and counted; the 96th, burned or
skipped, closes the window with its quality and the item is SEATING. Microseconds are operands (log 4). -/
def Obligations.StrobesBurnOrSkip : Prop :=
  ∀ (s : State) (w : PrintWindow) (j skipped us : Nat) (seen hot : Bool),
    s.ink.state = .printing → s.ink.window = some w → s.ink.record.strobed = some j → s.ink.record.skipped = some skipped →
    s.ink.record.hotSeen = some seen → ∀ time col, time = ((if hot then s.ink.energy / 2 else s.ink.energy) + 1) * 8 →
    col = (if s.ink.mirror then 95 - j else j) →
    ∀ rec, rec = { s.ink.record with
      sinceStart := inkMark s.ink.record.sinceStart (40 + j - s.ink.record.sinceLead.getD 0), sinceLead := some (40 + j),
      strobed := some (j + 1), hotSeen := some (seen || hot) } →
    (j = 0 ∨ s.ink.burnLeft ≤ us → j < 95 → exec (.printStrobe us hot) s = .next { begun s with
      lines.hot := hot, outputs := [.strobe (columnBytes s.lsv.station w col) time],
      ink.record := { rec with skipped := some skipped }, ink.burnLeft := time }) ∧
    (0 < j → us < s.ink.burnLeft → j < 95 → exec (.printStrobe us hot) s = .next { begun s with
      lines.hot := hot, ink.record := { rec with skipped := some (skipped + 1) }, ink.burnLeft := s.ink.burnLeft - us }) ∧
    (j = 95 → s.ink.burnLeft ≤ us → exec (.printStrobe us hot) s = .next { begun s with
      lines.hot := hot, outputs := [.strobe (columnBytes s.lsv.station w col) time],
      ink.state := .seating, ink.window := none, ink.burnLeft := time,
      ink.record := { rec with
        skipped := some skipped,
        quality := some (if 1 ≤ skipped then .part else if seen || hot then .light else .full) } }) ∧
    (j = 95 → us < s.ink.burnLeft → exec (.printStrobe us hot) s = .next { begun s with
      lines.hot := hot, ink.state := .seating, ink.window := none, ink.burnLeft := s.ink.burnLeft - us,
      ink.record := { rec with skipped := some (skipped + 1), quality := some .part } })

/-- INTAKE_TRAILING_EDGE and INTAKE_TOO_LONG: the length, from the leading edge's position to the trailing edge's, decides: 180
to 520 pulses are accepted, a shorter item is reversed from whatever state it is measured in, and the 521st covered pulse
reverses an item at once; a trailing edge of an item already decided decides nothing. Pulses are operands (log 4). What a
trailing edge told past 520 pulses would do is the model's choice and not stated (log 40). -/
def Obligations.IntakeLengthDecides : Prop :=
  (∀ (s : State) (pulses l : Nat) (k : Ink), k = { inkAdvance pulses s.ink with sensor := false, sinceClear := 1 } →
    (s.ink.record.outcome ≠ none ∨ (s.ink.state ≠ .drawing ∧ s.ink.state ≠ .printing ∧ s.ink.state ≠ .seating) →
      exec (.intakeTrailingEdge pulses) s = .next { begun s with ink := k }) ∧
    (k.record.sinceLead = some (l + 1) → s.ink.record.outcome = none →
      (s.ink.state = .seating → s.ink.window = none → 180 ≤ l → l ≤ 520 →
        exec (.intakeTrailingEdge pulses) s = .next { begun s with
          ink := { k with record := { k.record with length := some l, outcome := some .accepted } } }) ∧
      (s.ink.state = .drawing ∨ s.ink.state = .seating → s.ink.window = none → l < 180 →
        exec (.intakeTrailingEdge pulses) s = .next { begun s with
          ink := { k with
            state := .reversing, coveredInRun := false, sinceClear := 0,
            record := { k.record with length := some l, outcome := some .tooShort, sinceStart := 0 } } }) ∧
      (∀ w skipped hot, s.ink.state = .printing → s.ink.window = some w → l < 180 → s.ink.record.skipped = some skipped →
        s.ink.record.hotSeen = some hot → exec (.intakeTrailingEdge pulses) s = .next { begun s with
          ink := { k with
            state := .reversing, window := none, coveredInRun := false, sinceClear := 0,
            record := { k.record with
              quality := some (if 1 ≤ skipped then .part else if hot then .light else .full), length := some l,
              outcome := some .tooShort, sinceStart := 0 } } }))) ∧
  (∀ (s : State) (pulses m : Nat) (k : Ink), k = inkAdvance pulses s.ink → s.ink.state = .seating →
    s.ink.record.outcome = none → s.ink.sensor = true → k.record.sinceLead = some m →
    (521 ≤ m → exec (.intakeTooLong pulses) s = .next { begun s with
      ink := { k with
        state := .reversing, coveredInRun := true, sinceClear := 0,
        record := { k.record with outcome := some .tooLong, sinceStart := 0 } } }) ∧
    (m < 521 → exec (.intakeTooLong pulses) s = .next { begun s with ink := k }))

/-- ENVELOPE_SEATED and REVERSAL_END: an accepted envelope that covers the pocket's next place, the one above the records not
LAUNCHED, within 160 pulses joins the pocket at the newest end with its number, length and quality, and ENVELOPE_IN reports it
with its place; an item that has come back, its sensor covered in the reversal and then clear for 60 pulses, is reported with
its number. EJECT_END and CLEAR_RUN_END: the rollers stop on the same 60 pulses; an eject hands its tray over to the drawer's
load phase, and a clear run reports INTAKE_CLEAR to the purge that waits for it. A reversal, an eject or a clear run that ends
while a clear run is asked for is followed by it at once. Fewer clear pulses, a sensor not covered before, or 1,200 pulses in
the run end nothing. The eject's end in a load phase that waits for it begins the travel of a covered tray, brings a held drawer
home (log 22), and jams the drawer with cause LOAD over an empty tray. A clear run asked for is answered at once on an idle
clear path, begins on a covered or jammed one, and waits for a movement; INTAKE_CLEAR has the pocket surveyed, and the survey
gives every covered place above the records a record of its own. Pulses are operands (log 4); a run that ends with its 1,200th
pulse is log 41. That CLEARED is queued before the events of the survey is log 14. -/
def Obligations.IntakeRunsEnd : Prop :=
  (∀ (s : State) (pulses : Nat) (lines : Lines) (k : Ink), k = inkAdvance pulses s.ink →
     (∀ q l m quality e skip (place : Slot) (b : State), s.ink.state = .seating → k.record.outcome = some .accepted →
       k.record.seq = some q → k.record.length = some l → k.record.sinceLead = some m → m - l < 160 →
       k.record.quality = some quality → k.record.skipped = some skip →
       e = { seq := q, length := l, quality := quality, skipped := if quality = .part then skip else 0, recovered := false,
             state := .inPocket } →
       place.number = (s.pkt.pocket.filter (fun r => r.state ≠ .launched)).length + 1 →
       b = { queueEvent 53
           (be3 q ++ be2 l ++ be1 (quality.code * 64 + place.number) ++ if quality = .part then be1 skip else [])
           { begun s with lines := lines, ink := k, pkt.pocket := s.pkt.pocket ++ [e] } with ink.state := .idle } →
       (lines.places.get place = true → s.ink.clearPending = false →
         exec (.envelopeSeated pulses lines) s = .next (settle b)) ∧
       (lines.places.get place = true → s.ink.clearPending = true →
         exec (.envelopeSeated pulses lines) s = .next (settle (clearRequest { b with ink.clearPending := false }))) ∧
       (lines.places.get place = false →
         exec (.envelopeSeated pulses lines) s = .next { begun s with lines := lines, ink := k })) ∧
     (∀ l m, k.record.length = some l → k.record.sinceLead = some m → 160 ≤ m - l →
       exec (.envelopeSeated pulses lines) s = .next { begun s with lines := lines, ink := k }) ∧
     (k.sensor = true ∨ k.sinceClear < 60 ∨ 1200 ≤ k.record.sinceStart →
       exec (.reversalEnd pulses lines) s = .next { begun s with lines := lines, ink := k }
       ∧ exec (.ejectEnd pulses lines) s = .next { begun s with lines := lines, ink := k }
       ∧ exec (.clearRunEnd pulses lines) s = .next { begun s with lines := lines, ink := k }) ∧
     (k.coveredInRun = false →
       exec (.reversalEnd pulses lines) s = .next { begun s with lines := lines, ink := k }
       ∧ exec (.ejectEnd pulses lines) s = .next { begun s with lines := lines, ink := k }) ∧
     (k.sensor = false → 60 ≤ k.sinceClear → k.record.sinceStart < 1200 → s.ink.clearPending = true →
       (s.ink.state = .reversing → k.record.kind = .intake → s.ink.coveredInRun = true →
         exec (.reversalEnd pulses lines) s = .next (settle (clearRequest
           { queueEvent 55 (be1 (if k.record.outcome = some .tooLong then 6 else 5) ++ be3 (k.record.seq.getD 0))
               { begun s with lines := lines, ink := k } with ink.state := .idle, ink.clearPending := false }))) ∧
       (s.ink.state = .ejecting → s.ink.coveredInRun = true → exec (.ejectEnd pulses lines) s
         = .next (settle (ejectEnded (clearRequest
           { begun s with lines := lines, ink := { k with state := .idle, clearPending := false } })))) ∧
       (s.ink.state = .reversing → s.ink.record.kind = .reverseRun →
         (s.ink.coveredInRun = false → exec (.clearRunEnd pulses lines) s = .next (settle (clearRequest
           { begun s with lines := lines, ink := { k with state := .idle, clearPending := false } }))) ∧
         (s.ink.coveredInRun = true → exec (.clearRunEnd pulses lines) s = .next (settle (clearRequest
           { queueEvent 55 (be1 8 ++ be3 0) { begun s with lines := lines, ink := k } with
             ink.state := .idle, ink.clearPending := false }))))) ∧
     (k.sensor = false → 60 ≤ k.sinceClear → k.record.sinceStart < 1200 → s.ink.clearPending = false →
       (∀ q, s.ink.state = .reversing → k.record.kind = .intake → s.ink.coveredInRun = true → k.record.seq = q →
         exec (.reversalEnd pulses lines) s
           = .next (settle { queueEvent 55 (be1 (if k.record.outcome = some .tooLong then 6 else 5) ++ be3 (q.getD 0))
               { begun s with lines := lines, ink := k } with ink.state := .idle })) ∧
       (s.ink.state = .ejecting → s.ink.coveredInRun = true → exec (.ejectEnd pulses lines) s
         = .next (settle (ejectEnded { begun s with lines := lines, ink := { k with state := .idle } }))) ∧
       (s.ink.state = .reversing → s.ink.record.kind = .reverseRun →
         (s.ink.coveredInRun = false → exec (.clearRunEnd pulses lines) s
           = .next (settle (intakeClear { begun s with lines := lines, ink := { k with state := .idle } }))) ∧
         (s.ink.coveredInRun = true → exec (.clearRunEnd pulses lines) s
           = .next (settle (intakeClear { queueEvent 55 (be1 8 ++ be3 0) { begun s with lines := lines, ink := k } with
               ink.state := .idle })))))) ∧
  (∀ s e : State, e = { s with drw.stroke := none, drw.load := none } →
     (s.drw.state ≠ .extending ∨ s.drw.phase ≠ .load ∨ s.drw.load = none → ejectEnded s = s) ∧
     (∀ ms, s.drw.state = .extending → s.drw.phase = .load → s.drw.load = some ms →
       (s.drw.tray = true → s.drw.hold = false → ejectEnded s = { e with drw.phase := .travel, drw.motion := some 4000 }) ∧
       (s.drw.tray = true → s.drw.hold = true → ejectEnded s = drawerArrives { e with drw.obstructions := 0 }) ∧
       (s.drw.tray = false → ejectEnded s = drawerJam .load e))) ∧
  (∀ (s : State) (run : Ink), run = { s.ink with
       state := .reversing, clearPending := false, coveredInRun := s.ink.sensor, sinceClear := 0, window := none,
       record := {
         kind := .reverseRun, sinceStart := 0, sinceLead := none, seq := none, length := none, outcome := none,
         strobed := none, skipped := none, hotSeen := none, quality := none, jam := .none } } →
     (s.ink.state = .idle ∨ s.ink.state = .waiting →
       (s.ink.sensor = false → clearRequest s = intakeClear { s with ink.state := .idle }) ∧
       (s.ink.sensor = true → clearRequest s = { s with ink := run })) ∧
     (s.ink.state = .jammed → clearRequest s = { s with ink := run }) ∧
     (s.ink.state = .drawing ∨ s.ink.state = .printing ∨ s.ink.state = .seating ∨ s.ink.state = .reversing
         ∨ s.ink.state = .ejecting → clearRequest s = { s with ink.clearPending := true }) ∧
     (s.lsv.lane ≠ .purging ∨ s.lsv.stage ≠ .intake → intakeClear s = s) ∧
     (s.lsv.lane = .purging → s.lsv.stage = .intake →
       (s.lsv.transportDone = false → intakeClear s = { survey s with lsv.stage := .surveyed }) ∧
       (s.lsv.transportDone = true → intakeClear s = { survey s with
         lsv.stage := .surveyed, lsv.lane := .listening, pt.listenIn := some 600 }))) ∧
  (∀ s : State,
     (s.coveredPlaces ≤ s.pkt.pocket.length → survey s = s) ∧
     (∀ e : EnvRec, s.coveredPlaces = s.pkt.pocket.length + 1 →
       e = { seq := s.takenSeq, length := 0, quality := .unknown, skipped := 0, recovered := true, state := .inPocket } →
       survey s = queueEvent 53 (be3 e.seq ++ be2 0
           ++ be1 (224 + ((s.pkt.pocket ++ [e]).filter (fun r => r.state ≠ .launched)).length))
         { consumeSeq s with pkt.pocket := s.pkt.pocket ++ [e] }) ∧
     (isSequence s.ink.seqCounter → s.pkt.pocket.length ≤ 4 → (s.pkt.pocket.map (fun e => e.seq)).Nodup →
       ∃ found : List EnvRec, (survey s).pkt.pocket = s.pkt.pocket ++ found
         ∧ found.length = s.coveredPlaces - s.pkt.pocket.length
         ∧ (∀ e ∈ found, isSequence e.seq ∧ e = {
             seq := e.seq, length := 0, quality := .unknown, skipped := 0, recovered := true, state := .inPocket })
         ∧ ((survey s).pkt.pocket.map (fun e => e.seq)).Nodup
         ∧ (survey s).lsv = s.lsv ∧ (survey s).drw = s.drw ∧ (survey s).dsp = s.dsp ∧ (survey s).ntg = s.ntg))

/-- SEAT_TIMEOUT, REVERSE_TIMEOUT, INTAKE_STALL, EJECT_TIMEOUT and CLEAR_RUN_TIMEOUT: the intake is JAMMED with the cause of the
movement that failed; an eject leaves its decision to the drawer, and a clear run that fails fails the purge: a PURGING lane is in
FAULT and the dispense engine told, any other lane stays as it is. A jam ends any print window, sets outcome and cause, reports the
voided number, or 0, for an intake alone, and puts the lane in FAULT; the pulses of a stalled run are counted up to the stall.
Pulses are operands (log 4); that a window which a jam ends gives the record R105's quality is log 27, and that a clear run already
asked for begins from the jam is log 23. -/
def Obligations.IntakeJams : Prop :=
  (∀ (s b : State) (pulses : Nat) (lines : Lines), b = { begun s with ink := inkAdvance pulses s.ink } →
    (∀ l m, s.ink.state = .seating → b.ink.record.outcome = some .accepted → b.ink.record.length = some l →
      b.ink.record.sinceLead = some m → 160 ≤ m - l → exec (.seatTimeout pulses) s = .next (settle (inkJam .seat b))) ∧
    (s.ink.state = .reversing → s.ink.record.kind = .intake → 1200 ≤ b.ink.record.sinceStart →
      exec (.reverseTimeout pulses) s = .next (settle (inkJam .reverse b))) ∧
    (s.ink.state = .drawing ∨ s.ink.state = .printing ∨ s.ink.state = .seating ∨ s.ink.state = .ejecting
        ∨ (s.ink.state = .reversing ∧ s.ink.record.kind ≠ .reverseRun) →
      exec (.intakeStall pulses) s = .next (settle (inkJam .stall b))) ∧
    (s.ink.state = .ejecting → 1200 ≤ b.ink.record.sinceStart → exec (.ejectTimeout pulses lines) s
      = .next (settle (ejectEnded (inkJam .eject { b with lines := lines })))) ∧
    (s.ink.state = .reversing → s.ink.record.kind = .reverseRun →
      (1200 ≤ b.ink.record.sinceStart →
        exec (.clearRunTimeout pulses false) s = .next (settle (purgeFail (inkJam .clear b)))) ∧
      exec (.clearRunTimeout pulses true) s = .next (settle (purgeFail (inkJam .clear b))) ∧
      exec (.intakeStall pulses) s = .next (settle (purgeFail (inkJam .clear b))))) ∧
  (∀ (s j t : State) (cause : InkJam) (skipped : Nat) (hot : Bool) (quality : Option Quality),
    (s.ink.window = none → quality = s.ink.record.quality) →
    (∀ w, s.ink.window = some w → s.ink.record.skipped = some skipped ∧ s.ink.record.hotSeen = some hot
      ∧ quality = some (if 1 ≤ skipped then .part else if hot then .light else .full)) →
    j = { s with ink := { s.ink with
      state := .jammed, window := none,
      record := { s.ink.record with outcome := some .jammed, jam := cause, quality := quality } } } →
    (s.ink.record.kind = .intake → t = faultReport (queueEvent 55 (be1 7 ++ be3 (s.ink.record.seq.getD 0)) j)) →
    (s.ink.record.kind ≠ .intake → t = faultReport j) →
    (s.ink.clearPending = false → inkJam cause s = t) ∧
    (s.ink.clearPending = true → inkJam cause s = { t with ink := startClear t.ink })) ∧
  (∀ s : State, (s.lsv.lane = .purging → purgeFail s = dspFault { s with lsv.lane := .fault }) ∧
    (s.lsv.lane ≠ .purging → purgeFail s = s))

/-! ### Pocket and alarms -/

/-- GATE_PULSE, GATE_TIMEOUT and FAIRNESS_WAIT_END: a pulse in LAUNCHED captures the envelope and a timeout loses it, the
record leaves, ENVELOPE_OUT reports it, and a release is queued that says which; in every other chute state a pulse does
nothing. -/
def Obligations.LaunchEnds : Prop :=
  ∀ s : State,
    (s.pkt.chute ≠ .launched → exec .gatePulse s = .next (begun s)) ∧
    (∀ (e : EnvRec) (rest : List EnvRec), s.pkt.chute = .launched → s.pkt.pocket = e :: rest → ∀ b, b = { begun s with
        pkt.gate := none, pkt.pocket := rest } →
      exec .gatePulse s = .next (settle
        { queueEvent 54 (be3 e.seq ++ be1 2 ++ be1 rest.length) b with
          pkt.chute := .releasing, biu.wallQueue := s.biu.wallQueue ++ [.chuteRelease true] }) ∧
      (∀ ms, s.pkt.gate = some ms → exec .gateTimeout s = .next (settle
        { queueEvent 54 (be3 e.seq ++ be1 3 ++ be1 rest.length) b with
          pkt.chute := .releasing, biu.wallQueue := s.biu.wallQueue ++ [.chuteRelease false] }))) ∧
    (∀ ms, s.pkt.fairness = some ms → exec .fairnessWaitEnd s = .next (settle { begun s with pkt.fairness := none }))

/-- LOOP_CHANGE: an enabled loop that opens latches its own kind, a short latches TAMPER, the cabinet door latches nothing while
the service window is open, and a loop that returns to NORMAL removes nothing; a disabled loop is followed and no more. A
new latch raises the alarm flag, forms the wall set, and starts the siren, or energises the relay for DURESS, or does both where
both kinds of latch are new; kinds that are latched already do nothing. SIREN_TOGGLE
and SIREN_TIMEOUT: a sounding siren changes over every 250 ms, and it stops when its 180 s run out. -/
def Obligations.AlarmLoopsAndSiren : Prop :=
  (∀ (s : State) (loop : Slot) (cls : LoopClass) (kind : AlarmSet), (s.alm.loops.get loop).state ≠ cls →
     kind = (match cls, loop with
       | .normal, _ => AlarmSet.empty
       | .short, _ => { AlarmSet.empty with tamper := true }
       | .opened, .one => { AlarmSet.empty with duress := true }
       | .opened, .two => { AlarmSet.empty with tamper := true }
       | .opened, .three => if s.alm.serviceWindow then AlarmSet.empty else { AlarmSet.empty with cabinet := true }
       | .opened, .four => { AlarmSet.empty with bin := true }) →
     ∀ b, b = { begun s with
       alm.loops := s.alm.loops.set loop { s.alm.loops.get loop with state := cls },
       lines.comparators := s.lines.comparators.set loop cls } →
     ((s.alm.loops.get loop).enabled = false → exec (.loopChange loop cls) s = .next b) ∧
     ((s.alm.loops.get loop).enabled = true →
       (kind.minus s.alm.latch = AlarmSet.empty → exec (.loopChange loop cls) s = .next (settle b)) ∧
       (kind.minus s.alm.latch = { AlarmSet.empty with duress := true } → exec (.loopChange loop cls) s
         = .next (settle { formWall { b with
             alm.latch := s.alm.latch.union kind, alm.latchChanged := true, biu.alarmFlag := true } with
             alm.relay := true })) ∧
       ((kind.minus s.alm.latch).sounds = true → exec (.loopChange loop cls) s
         = .next (settle { formWall { b with
             alm.latch := s.alm.latch.union kind, alm.latchChanged := true, biu.alarmFlag := true } with
             alm.siren := true, alm.sirenTimer := some 180000, alm.sirenOn := true, alm.sirenToggle := some 250 })))) ∧
  (∀ (s : State) (ms : Nat),
     (s.alm.sirenToggle = some ms → exec .sirenToggle s
       = .next { begun s with alm.sirenOn := !s.alm.sirenOn, alm.sirenToggle := some 250 }) ∧
     (s.alm.sirenTimer = some ms → exec .sirenTimeout s = .next { begun s with
       alm.siren := false, alm.sirenTimer := none, alm.sirenOn := false, alm.sirenToggle := none }) ∧
     (s.alm.sirenToggle = none → exec .sirenToggle s = .next (begun s)) ∧
     (s.alm.sirenTimer = none → exec .sirenTimeout s = .next (begun s))) ∧
  (∀ (s f : State) (kinds new : AlarmSet), new = kinds.minus s.alm.latch →
     f = formWall { s with alm.latch := s.alm.latch.union kinds, alm.latchChanged := true, biu.alarmFlag := true } →
     (new = AlarmSet.empty → latchKinds kinds s = s) ∧
     (new ≠ AlarmSet.empty → latchKinds kinds s = { f with
       alm.siren := f.alm.siren || new.sounds, alm.sirenTimer := if new.sounds then some 180000 else f.alm.sirenTimer,
       alm.sirenOn := f.alm.sirenOn || new.sounds, alm.sirenToggle := if new.sounds then some 250 else f.alm.sirenToggle,
       alm.relay := f.alm.relay || new.duress }))

/-! ### What the chapters build on -/

/-- The end of a dispense: the own entry 0 at once, a RELEASE of its amount if the RESERVE has left the outbox, the pick list
cleared, the stacker's count and value 0 (kept as leftover where the end does not lead to IDLE and no bundle was presented),
DISPENSE_ENDED with reason, amount, paid, taken, retracted, rejected and the picked counts of the mix slots, and the state
after. An end by way of a purge records its reason, withdraws from the transport, and once the transport is clear, at once
where nothing is in it, empties the stacker into the reject bin and ends. -/
def Obligations.EndOfADispense : Prop :=
  (∀ (reason : EndReason) (after : DspState) (s t : State), dspEnd reason after s = t →
    t.dsp.state = after ∧ t.dsp.dispensing = false ∧ t.dsp.pickList = [] ∧ t.dsp.suspendTimer = none
    ∧ t.dsp.paid = s.dsp.paid ∧ t.dsp.taken = s.dsp.taken ∧ t.dsp.amount = s.dsp.amount
    ∧ t.dsp.stackerCount = 0 ∧ t.dsp.inStacker = 0
    ∧ t.dsp.leftover = (if after ≠ .idle ∧ s.dsp.state ≠ .presenting then s.dsp.stackerCount else s.dsp.leftover)
    ∧ t.biu.wallQueue = (if s.dsp.reservation = .sent then s.biu.wallQueue ++ [.release s.dsp.amount] else s.biu.wallQueue)
    ∧ (s.lsv.station.toNat < 15 → t.ownExposure = 0)
    ∧ (∀ n, n < 15 → n ≠ s.lsv.station.toNat → peerAt t.pt.peers n = peerAt s.pt.peers n)
    ∧ (s.biu.fifo.length < 8 → t.cmd.eventGap = s.cmd.eventGap ∧ t.biu.fifo = s.biu.fifo ++ [.frame
        { kind := 49, dest := s.cmd.owner.getD 0,
          payload := be1 reason.code ++ be3 s.dsp.amount ++ be3 s.dsp.paid ++ be1 s.dsp.taken ++ be1 s.dsp.retracted
            ++ be2 s.dsp.rejected ++ (Slot.all.filter (fun k => s.dsp.mixSlots.get k)).flatMap
              (fun k => be1 k.number ++ be2 (s.dsp.picked.get k)) }])
    ∧ (8 ≤ s.biu.fifo.length → t.cmd.eventGap = true ∧ t.biu.fifo = s.biu.fifo)
    ∧ t.cas = s.cas ∧ t.ntg = s.ntg ∧ t.drw = s.drw ∧ t.ink = s.ink ∧ t.pkt = s.pkt ∧ t.alm = s.alm ∧ t.lsv = s.lsv) ∧
  (∀ (reason : EndReason) (s p : State), p = { s with
      dsp.pendingEnd := some reason, dsp.state := .purging, dsp.suspendTimer := none, dsp.withdrawPending := false } →
    (s.ntg.state = .idle → dspEndByPurge reason s = finishPurge p) ∧
    (s.ntg.state = .baseline → dspEndByPurge reason s
      = finishPurge { p with ntg.order := none, ntg.state := .idle, ntg.valid := false }) ∧
    (s.ntg.state = .feeding →
      (s.ntg.records = [] → dspEndByPurge reason s = finishPurge { p with ntg.order := none, ntg.state := .idle }) ∧
      (s.ntg.records ≠ [] → dspEndByPurge reason s = { p with ntg.order := none, ntg.state := .draining })) ∧
    (s.ntg.state = .draining ∨ s.ntg.state = .purge ∨ s.ntg.state = .halted →
      dspEndByPurge reason s = { p with ntg.order := none })) ∧
  (∀ (reason : EndReason) (s : State), s.dsp.pendingEnd = some reason → finishPurge s = dspEnd reason .idle { s with
    dsp.rejectCount := min s.dsp.rejectCap (s.dsp.rejectCount + s.dsp.stackerCount),
    dsp.overflow := s.dsp.overflow || decide (s.dsp.rejectCap < s.dsp.rejectCount + s.dsp.stackerCount),
    dsp.rejected := s.dsp.rejected + s.dsp.stackerCount })

/-- The wall alarm set is the union of the own latch set and every other record's announced set, absent records included; where
it brings lockdown about, the dispense engine and the drawer act by their states. A dispense that is reserving ends, or
records its end while the RESERVE is in transmission, one at its baseline, picking or suspended ends by way of a purge, one
stacked withdraws its request first, and one presenting is marked. A drawer in its load phase is held, one that travels out or
stands OPEN turns home, and any other goes on as it is. That a reason recorded before is kept is log 16, that a drawer backing
off or waiting is left as it is log 21, and that the drawer is not moved in STARTING and AWAIT_CONFIG is log 37. -/
def Obligations.WallSetAndLockdown : Prop :=
  (∀ s : State, s.lsv.station.toNat < 15 →
    (∀ kind : AlarmSet → Bool, kind = (·.duress) ∨ kind = (·.tamper) ∨ kind = (·.cabinet) ∨ kind = (·.bin) →
      (kind s.formedWall = true ↔ kind s.alm.latch = true
        ∨ ∃ n, n < 15 ∧ n ≠ s.lsv.station.toNat ∧ kind (peerAt s.pt.peers n).announced = true)) ∧
    (s.lockdown = true ∨ s.formedWall.locks = false → formWall s = { s with alm.wall := s.formedWall })) ∧
  (∀ s w d : State, s.lockdown = false → s.formedWall.locks = true → w = { s with alm.wall := s.formedWall } →
    ((s.dsp.state = .idle ∨ s.dsp.state = .purging ∨ s.dsp.state = .fault) ∧ d = w)
      ∨ (s.dsp.state = .reserving ∧ s.reserveSending = false
          ∧ d = dspEnd .lockdown .idle (dropWall (.reserve s.dsp.amount) w))
      ∨ (s.dsp.state = .reserving ∧ s.reserveSending = true
          ∧ d = { w with dsp.pendingEnd := some (s.dsp.pendingEnd.getD .lockdown) })
      ∨ ((s.dsp.state = .baseline ∨ s.dsp.state = .picking ∨ s.dsp.state = .suspended) ∧ d = dspEndByPurge .lockdown w)
      ∨ (s.dsp.state = .stacked ∧ d = dspEndByPurge .lockdown { w with drw.pendingReq := none, drw.blocked := false })
      ∨ (s.dsp.state = .presenting ∧ d = { w with dsp.lockMark := true }) →
    (s.lsv.lane = .starting ∨ s.lsv.lane = .awaitConfig → formWall s = d) ∧
    (s.lsv.lane ≠ .starting → s.lsv.lane ≠ .awaitConfig →
      (s.drw.state = .closed ∨ s.drw.state = .retracting ∨ s.drw.state = .jammed → formWall s = d) ∧
      (s.drw.state = .extending → s.drw.phase = .load → formWall s = { d with drw.obstructions := 0, drw.hold := true }) ∧
      ((s.drw.state = .extending ∧ s.drw.phase = .travel) ∨ (s.drw.state = .opened ∧ s.drw.mode = .standing) →
        formWall s = { d with drw := { d.drw with
          obstructions := 0, state := .retracting, mode := .standing, motion := some 4000, take := none, deposit := none,
          obstruct := none, retractNext := false } }) ∧
      (s.drw.state = .opened → s.drw.mode ≠ .standing → formWall s = d)))

/-- The thickness index: 0 where the gate count is not below the baseline, else the rounded fall in 1,024ths of the baseline,
clamped to 1,023; within the valid baseline range the product stays below 2^27. The classes of the channels and of the
object, with every pair of channel classes covered. -/
def Obligations.GaugeIndexAndClasses : Prop :=
  (∀ c0 cn : Nat,
     (c0 ≤ cn → thickness c0 cn = 0) ∧
     (cn < c0 → thickness c0 cn = min 1023 (((c0 - cn) * 1024 + c0 / 2) / c0)) ∧
     thickness c0 cn ≤ 1023 ∧
     (256 ≤ c0 → c0 ≤ 65534 → (c0 - cn) * 1024 + c0 / 2 < 2 ^ 27) ∧
     (256 ≤ c0 → 1023 < ((c0 - cn) * 1024 + c0 / 2) / c0 → ((c0 - cn) * 1024 + c0 / 2) / c0 = 1024)) ∧
  ((∀ t ref8 : Nat,
     (channelClass t ref8 = .low ↔ 64 * t < 5 * ref8) ∧
     (channelClass t ref8 = .one ↔ 5 * ref8 ≤ 64 * t ∧ 64 * t ≤ 13 * ref8) ∧
     (channelClass t ref8 = .two ↔ 13 * ref8 < 64 * t ∧ 64 * t ≤ 21 * ref8) ∧
     (channelClass t ref8 = .many ↔ 21 * ref8 < 64 * t)) ∧
   (∀ l r : ChannelClass,
     (l = .many ∨ r = .many → gaugeClass l r = .multiple) ∧
     (l ≠ .many → r ≠ .many → l = .low ∨ r = .low → gaugeClass l r = .thin) ∧
     ((l = .one ∧ r = .two) ∨ (l = .two ∧ r = .one) → gaugeClass l r = .folded) ∧
     (l = .two → r = .two → gaugeClass l r = .double) ∧
     (l = .one → r = .one → gaugeClass l r = .single)))

/-- The mix for an amount: the counts lie within the estimates, their sum within the allowance and their value is the
amount; among all such vectors it is the largest, compared first on the first cassette of the mix order, then on the next;
it holds a note where the amount is at least 1; where no vector will do there is no mix, and DISPENSE is answered
NOT_MAKEABLE. -/
def Obligations.MixIsTheLargest : Prop :=
  ∀ (cas : Four Cassette) (amount allowance : Nat) (order : List Slot), (∀ k, (cas.get k).Sound) →
    order = mixOrder cas (eligibleSlots cas) →
    ∀ good : List Nat → Prop, good = (fun v => v.length = order.length
        ∧ (∀ p ∈ List.zip order v, p.2 ≤ (cas.get p.1).count) ∧ v.sum ≤ allowance
        ∧ ((List.zip order v).map (fun p => p.2 * (cas.get p.1).denomination)).sum = amount) →
    (∀ mix, findMix cas amount allowance = some mix →
      ∃ v, mix = List.zip order v ∧ good v ∧ (∀ w, good w → w = v ∨ List.Lex (· < ·) w v) ∧ (1 ≤ amount → 1 ≤ v.sum)) ∧
    (findMix cas amount allowance = none ↔ ∀ v, ¬ good v) ∧
    (∀ s : State, s.cas = cas → allowance = 4 * s.dsp.bundleLimit → 1 ≤ amount → amount ≤ 16777215 → (∀ v, ¬ good v) →
      dspDispense amount s = (s, some (.notMakeable, [])))

/-! ### Invariants every step keeps, and whole-machine rules -/

/-- Every step keeps the cassette records sound: within their ranges, in the state R2 gives, counted only while seated. -/
def Obligations.CassettesStaySound : Prop :=
  ∀ s t : State, CassettesSound s → step s = .next t → CassettesSound t

/-- Every step keeps the pocket in one of R109's two forms, with at most four records and distinct numbers from 1 to 999,999. -/
def Obligations.PocketStaysSound : Prop :=
  ∀ s t : State, PocketSound s → step s = .next t → PocketSound t

/-- Every step keeps the wall alarm set, the relay, the siren and the service window as the alarm chapter ties them to the
latches, the peer records and the lane state. A lane number is a premise because a power reset may strap any number. -/
def Obligations.AlarmsStaySound : Prop :=
  ∀ s t : State, AlarmSound s → isLane s.lsv.station = true → step s = .next t → AlarmSound t

/-- Every step keeps at most eight FIFO positions taken and the void count at 16 in QUIET alone. -/
def Obligations.OutboxStaysSound : Prop :=
  ∀ s t : State, OutboxSound s → step s = .next t → OutboxSound t

/-- Every step keeps the chute protocol of the own side: at most one recorded holder, and the lane's claim, launch and
release in step with its own holding. -/
def Obligations.ChuteStaysSound : Prop :=
  ∀ s t : State, ChuteSound s → step s = .next t → ChuteSound t

/-- Every step keeps the own exposure entry at the amount of the active dispense from the completion of its RESERVE to its
end, and at 0 otherwise. -/
def Obligations.ExposureStaysSound : Prop :=
  ∀ s t : State, ExposureSound s → step s = .next t → ExposureSound t

/-- After a power reset, whatever the straps, every invariant holds. -/
def Obligations.ResetMeetsTheInvariants : Prop :=
  ∀ (station : Station) (slow : Bool) (s : State), s = State.powerOn station slow →
    CassettesSound s ∧ PocketSound s ∧ AlarmSound s ∧ OutboxSound s ∧ ChuteSound s ∧ ExposureSound s

/-- Under lockdown no pick fires and no extension begins; a pick fires only in FEEDING from an eligible slot, and LAUNCH is
driven only with the own station recorded as holder and the chute LAUNCHED. When a pick does fire: in FEEDING with an order whose
slot is OK or LOW and whose stack target is above the stacker count and the records together, with every record PAST_GAUGE and no
lockdown, the slot's solenoid is driven once and a PICKED record with its mark at 0 joins the others; in every other case none is.
The diverter stands on the route of the oldest PAST_GAUGE record, and on the reject side while there is none, but a halt keeps it.
The order in which a step's end settles the intake, the drawer, the transport and the pocket is the model's (log 14). -/
def Obligations.LockdownAndLaunchHold : Prop :=
  (∀ (c : Instr) (s t : State), exec c s = .next t →
    (∀ k, .pick k ∈ t.outputs → t.lockdown = false ∧ t.ntg.state = .feeding ∧ (t.cas.get k).state.eligible = true
      ∧ ∃ r ∈ t.ntg.records, r.slot = some k ∧ r.stage = .picked ∧ r.sincePick = some 0) ∧
    (.launch ∈ t.outputs → t.ownHolder = true ∧ t.pkt.chute = .launched) ∧
    (s.drw.state ≠ .extending → t.drw.state = .extending → t.lockdown = false)) ∧
  (∀ s d : State, settle s = settlePkt (settleNtg (settleDrw (settleInk s))) ∧
    (d = { s with ntg.diverter :=
        if s.ntg.state = .halted then s.ntg.diverter
        else if (s.ntg.records.find? (fun r => decide (r.stage = .pastGauge))).bind (fun r => r.route) = some .stacker
          then .stacker else .reject } →
      (∀ o, s.ntg.order = some o → s.ntg.state = .feeding → (∀ r ∈ s.ntg.records, r.stage = .pastGauge) →
        s.dsp.stackerCount + s.ntg.records.length < o.target →
        (s.cas.get o.slot).state = .ok ∨ (s.cas.get o.slot).state = .low → s.lockdown = false →
        settleNtg s = { d with
          outputs := s.outputs ++ [.pick o.slot],
          ntg.records := s.ntg.records ++ [{
            slot := some o.slot, stage := .picked, sincePick := some 0, sinceLead := none, sinceTrail := none, counts := none,
            indices := none, length := none, gauge := none, lengthClass := none, outcome := none, reason := none,
            estimate := none, route := none, purge := false }] }) ∧
      (s.ntg.order = none ∨ s.ntg.state ≠ .feeding ∨ (∃ r ∈ s.ntg.records, r.stage ≠ .pastGauge) ∨ s.lockdown = true →
        settleNtg s = d) ∧
      (∀ o, s.ntg.order = some o → o.target ≤ s.dsp.stackerCount + s.ntg.records.length
          ∨ ((s.cas.get o.slot).state ≠ .ok ∧ (s.cas.get o.slot).state ≠ .low) →
        settleNtg s = d)))

/-- The lane state moves only along R180's table. A restart held in STARTING, which no run reaches, is left out: its later acts would
enter PURGING from there. -/
def Obligations.LaneStateMoves : Prop :=
  ∀ (c : Instr) (s t : State), (∀ station slow, c ≠ .powerReset station slow) →
    (s.lsv.lane = .starting → s.lsv.heldRestarts = []) → exec c s = .next t →
    laneMove s.lsv.lane t.lsv.lane = true

/-- What configuration sets nothing else changes: outside AWAIT_CONFIG every command but a power reset leaves the configured
values, the enables, the capacities and the cassettes' configured fields, and the straps hold in every lane state. -/
def Obligations.ConfigurationHolds : Prop :=
  ∀ (c : Instr) (s t : State), (∀ station slow, c ≠ .powerReset station slow) → exec c s = .next t →
    t.lsv.station = s.lsv.station ∧ t.biu.slow = s.biu.slow ∧ (s.lsv.lane ≠ .awaitConfig → SameConfiguration s t)
end

