-- ==== Sys2Proof/Laws/State.lean ====
section
/-!
SUPPORT. What each named update writes: one lemma for each field of each update that is a plain record update, and what reading after
writing gives for the four slots and the fifteen peer records. What an update leaves alone stands in Frames.lean.
-/

namespace Sys2Proof

/-! ### Four like things -/

@[simp] theorem Four.get_set_same {α : Type} (v : Four α) (k : Slot) (x : α) : (v.set k x).get k = x := by
  cases k <;> rfl

theorem Four.get_set_other {α : Type} (v : Four α) {j k : Slot} (x : α) (h : j ≠ k) : (v.set k x).get j = v.get j := by
  cases j <;> cases k <;> first | rfl | exact absurd rfl h

@[simp] theorem Four.get_modify_same {α : Type} (v : Four α) (k : Slot) (f : α → α) :
    (v.modify k f).get k = f (v.get k) := by
  cases k <;> rfl

theorem Four.get_modify_other {α : Type} (v : Four α) {j k : Slot} (f : α → α) (h : j ≠ k) :
    (v.modify k f).get j = v.get j := by
  cases j <;> cases k <;> first | rfl | exact absurd rfl h

@[simp] theorem Four.get_replicate {α : Type} (x : α) (k : Slot) : (Four.replicate x).get k = x := by cases k <;> rfl

namespace Machine

variable (s : State)

/-! ### The peer table -/

theorem peerAt_modifyPeer_same (peers : Vector Peer 15) (f : Peer → Peer) {n : Nat} (h : n < 15) :
    peerAt (modifyPeer n f peers) n = f (peerAt peers n) := by
  simp [peerAt, modifyPeer, h]

theorem peerAt_modifyPeer_other (peers : Vector Peer 15) (f : Peer → Peer) {m n : Nat} (h : m ≠ n) :
    peerAt (modifyPeer n f peers) m = peerAt peers m := by
  unfold peerAt modifyPeer
  split
  · split
    · rw [Vector.getElem_set_ne _ _ (by omega)]
    · rfl
  · rfl

theorem modifyPeer_out (peers : Vector Peer 15) (f : Peer → Peer) {n : Nat} (h : 15 ≤ n) : modifyPeer n f peers = peers := by
  simp [modifyPeer, Nat.not_lt.mpr h]

@[simp] theorem setPeer_peers (n : Station) (f : Peer → Peer) :
    (setPeer n f s).pt.peers = modifyPeer n.toNat f s.pt.peers := rfl

@[simp] theorem setOwnExposure_peers (a : Nat) :
    (setOwnExposure a s).pt.peers = modifyPeer s.lsv.station.toNat (fun p => { p with exposure := a }) s.pt.peers := rfl

/-! ### The outbox -/

@[simp] theorem queueWall_wallQueue (i : WallItem) : (queueWall i s).biu.wallQueue = s.biu.wallQueue ++ [i] := rfl
@[simp] theorem dropWall_wallQueue (i : WallItem) : (dropWall i s).biu.wallQueue = s.biu.wallQueue.erase i := rfl
@[simp] theorem fillFrame_fifo (w : Reservation) (f : OutFrame) :
    (fillFrame w f s).biu.fifo = fillPos w (.frame f) s.biu.fifo := rfl
@[simp] theorem dropFifo_fifo (f : OutFrame) : (dropFifo f s).biu.fifo = s.biu.fifo.erase (.frame f) := rfl
@[simp] theorem dropReservations_acked : (dropReservations s).cmd.acked = none := rfl
@[simp] theorem statusEnded_statusFlag : (statusEnded s).biu.statusFlag = false := rfl
@[simp] theorem statusEnded_statusTimer : (statusEnded s).pt.statusTimer = some statusTime := rfl
@[simp] theorem attemptCompleted_attempt (h : Bool) : (attemptCompleted h s).biu.attempt = none := rfl
@[simp] theorem attemptCompleted_voidCount (h : Bool) : (attemptCompleted h s).biu.voidCount = 0 := rfl
@[simp] theorem attemptCompleted_broken (h : Bool) : (attemptCompleted h s).biu.broken = false := rfl
@[simp] theorem leaveQuiet_quiet : (leaveQuiet s).biu.quiet = none := rfl
@[simp] theorem leaveQuiet_voidCount : (leaveQuiet s).biu.voidCount = 0 := rfl
@[simp] theorem leaveQuiet_quietEnded : (leaveQuiet s).pt.quietEnded = true := rfl
@[simp] theorem leaveQuiet_listenIn : (leaveQuiet s).pt.listenIn = some listenTime := rfl

/-! ### Lines and outputs -/

@[simp] theorem sample_lines (l : Lines) : (sample l s).lines = l := rfl
@[simp] theorem drive_outputs (o : Output) : (drive o s).outputs = s.outputs ++ [o] := rfl

/-! ### Dispense engine and drawer -/

@[simp] theorem dspSuspend_state : (dspSuspend s).dsp.state = .suspended := rfl
@[simp] theorem dspSuspend_timer : (dspSuspend s).dsp.suspendTimer = some suspendTime := rfl
@[simp] theorem postNotes_pendingReq (r : NotesReq) : (postNotes r s).drw.pendingReq = some r := rfl
@[simp] theorem postNotes_blocked (r : NotesReq) : (postNotes r s).drw.blocked = false := rfl
@[simp] theorem withdrawNotes_pendingReq : (withdrawNotes s).drw.pendingReq = none := rfl
@[simp] theorem withdrawNotes_blocked : (withdrawNotes s).drw.blocked = false := rfl
@[simp] theorem clearPurpose_purpose : (clearPurpose s).drw.purpose = .none := rfl
@[simp] theorem clearPurpose_returnSeq : (clearPurpose s).drw.returnSeq = none := rfl

variable (d : Drw)

@[simp] theorem beginRetraction_state : (beginRetraction d).state = .retracting := rfl
@[simp] theorem beginRetraction_motion : (beginRetraction d).motion = some motionLimit := rfl
@[simp] theorem beginRetraction_take : (beginRetraction d).take = none := rfl
@[simp] theorem beginRetraction_deposit : (beginRetraction d).deposit = none := rfl
@[simp] theorem beginRetraction_purpose : (beginRetraction d).purpose = d.purpose := rfl
@[simp] theorem beginRetraction_tray : (beginRetraction d).tray = d.tray := rfl
@[simp] theorem beginRetraction_obstructions : (beginRetraction d).obstructions = d.obstructions := rfl
/-- The tray-empty timer follows the tray; nothing else of the drawer does but the tray level itself. -/
theorem followTray_eq (covered : Bool) :
    followTray covered d = { d with tray := covered, trayEmpty := (followTray covered d).trayEmpty } := by
  unfold followTray
  cases covered <;> simp only [Bool.false_eq_true, if_false, if_true]
  split <;> rfl

@[simp] theorem followTray_covered : followTray true d = { d with tray := true, trayEmpty := none } := rfl
@[simp] theorem followTray_state (c : Bool) : (followTray c d).state = d.state := by rw [followTray_eq]
@[simp] theorem followTray_mode (c : Bool) : (followTray c d).mode = d.mode := by rw [followTray_eq]
@[simp] theorem followTray_purpose (c : Bool) : (followTray c d).purpose = d.purpose := by rw [followTray_eq]
@[simp] theorem followTray_tray (c : Bool) : (followTray c d).tray = c := by rw [followTray_eq]
@[simp] theorem followTray_obstructions (c : Bool) : (followTray c d).obstructions = d.obstructions := by rw [followTray_eq]
@[simp] theorem followTray_motion (c : Bool) : (followTray c d).motion = d.motion := by rw [followTray_eq]
@[simp] theorem followTray_reported (c : Bool) : (followTray c d).reported = d.reported := by rw [followTray_eq]
@[simp] theorem followTray_reachedOpen (c : Bool) : (followTray c d).reachedOpen = d.reachedOpen := by rw [followTray_eq]
@[simp] theorem obstructed_state : (obstructed d).state = .opened := followTray_state _ _
@[simp] theorem obstructed_mode : (obstructed d).mode = .backingOff := followTray_mode _ _
@[simp] theorem obstructed_purpose : (obstructed d).purpose = d.purpose := followTray_purpose _ _
@[simp] theorem obstructed_obstructions : (obstructed d).obstructions = min 3 (d.obstructions + 1) :=
  followTray_obstructions _ _
@[simp] theorem obstructed_motion : (obstructed d).motion = some motionLimit := followTray_motion _ _
@[simp] theorem obstructed_reachedOpen : (obstructed d).reachedOpen = true := followTray_reachedOpen _ _
@[simp] theorem extend_state (p : Purpose) (h : ExtPhase) : (extend p h d).state = .extending := rfl
@[simp] theorem extend_purpose (p : Purpose) (h : ExtPhase) : (extend p h d).purpose = p := rfl
@[simp] theorem extend_phase (p : Purpose) (h : ExtPhase) : (extend p h d).phase = h := rfl
@[simp] theorem extend_reported (p : Purpose) (h : ExtPhase) : (extend p h d).reported = false := rfl
@[simp] theorem extend_hold (p : Purpose) (h : ExtPhase) : (extend p h d).hold = false := rfl

/-! ### Transport and intake -/

variable (n : Ntg) (k : Ink)

@[simp] theorem ntgHalt_state (c : HaltCause) : (ntgHalt c n).state = .halted := rfl
@[simp] theorem ntgHalt_cause (c : HaltCause) : (ntgHalt c n).cause = c := rfl
@[simp] theorem ntgHalt_order (c : HaltCause) : (ntgHalt c n).order = none := rfl
@[simp] theorem ntgHalt_records (c : HaltCause) : (ntgHalt c n).records = n.records := rfl
@[simp] theorem ntgHalt_diverter (c : HaltCause) : (ntgHalt c n).diverter = n.diverter := rfl
@[simp] theorem ntgPurge_state : (ntgPurge n).state = .purge := rfl
@[simp] theorem ntgPurge_order : (ntgPurge n).order = none := rfl
@[simp] theorem ntgPurge_diverter : (ntgPurge n).diverter = .reject := rfl
@[simp] theorem ntgPurge_records : (ntgPurge n).records = n.records.map purgeRecord := rfl
@[simp] theorem ntgPurge_clearFor : (ntgPurge n).clearFor = 0 := rfl
@[simp] theorem coverExit_stacker : coverExit .stacker n = { n with exitS := some 0 } := rfl
@[simp] theorem coverExit_reject : coverExit .reject n = { n with exitR := some 0 } := rfl
@[simp] theorem coverExit_state (side : Side) : (coverExit side n).state = n.state := by cases side <;> rfl
@[simp] theorem coverExit_records (side : Side) : (coverExit side n).records = n.records := by cases side <;> rfl
@[simp] theorem ntgAdvance_state (p : PathCount) : (ntgAdvance p n).state = n.state := by unfold ntgAdvance; split <;> rfl
@[simp] theorem ntgAdvance_edge (p : PathCount) : (ntgAdvance p n).edge = n.edge := by unfold ntgAdvance; split <;> rfl
@[simp] theorem ntgAdvance_gateLength (p : PathCount) : (ntgAdvance p n).gateLength = n.gateLength := by
  unfold ntgAdvance; split <;> rfl
@[simp] theorem consumeSeq_seqCounter : (consumeSeq s).ink.seqCounter = nextSeq s.takenSeq := rfl
@[simp] theorem startClear_state : (startClear k).state = .reversing := rfl
@[simp] theorem startClear_kind : (startClear k).record.kind = .reverseRun := rfl
@[simp] theorem startEject_state : (startEject k).state = .ejecting := rfl
@[simp] theorem startEject_kind : (startEject k).record.kind = .eject := rfl
@[simp] theorem startEject_sinceClear : (startEject k).sinceClear = 0 := rfl
@[simp] theorem startClear_sinceClear : (startClear k).sinceClear = 0 := rfl
@[simp] theorem reverseItem_sinceClear (o : IntakeOutcome) : (reverseItem o k).sinceClear = 0 := rfl
@[simp] theorem intakeUncovered_sensor : (intakeUncovered k).sensor = false := rfl
@[simp] theorem intakeUncovered_sinceClear : (intakeUncovered k).sinceClear = Config.sensorLag := rfl
@[simp] theorem openWindow_state (q : Nat) : (openWindow q k).state = .printing := rfl
@[simp] theorem openWindow_seq (q : Nat) : (openWindow q k).record.seq = some q := rfl
@[simp] theorem reverseItem_state (o : IntakeOutcome) : (reverseItem o k).state = .reversing := rfl
@[simp] theorem reverseItem_outcome (o : IntakeOutcome) : (reverseItem o k).record.outcome = some o := rfl

/-! ### Alarm unit -/

@[simp] theorem startSiren_siren : (startSiren s).alm.siren = true := rfl
@[simp] theorem startSiren_sirenTimer : (startSiren s).alm.sirenTimer = some sirenTime := rfl
@[simp] theorem startSiren_sirenOn : (startSiren s).alm.sirenOn = true := rfl
@[simp] theorem startSiren_sirenToggle : (startSiren s).alm.sirenToggle = some sirenHalf := rfl
@[simp] theorem stopSiren_siren : (stopSiren s).alm.siren = false := rfl
@[simp] theorem stopSiren_sirenTimer : (stopSiren s).alm.sirenTimer = none := rfl
@[simp] theorem stopSiren_sirenOn : (stopSiren s).alm.sirenOn = false := rfl
@[simp] theorem stopSiren_sirenToggle : (stopSiren s).alm.sirenToggle = none := rfl

end Machine

end Sys2Proof
end

