-- ==== Sys2Proof/Laws/Frames.lean ====
section
/-!
SUPPORT. What the shared operations of the outbox, the cassettes, the transport, the drawer, the dispense engine, the intake, the pocket
and the alarm unit leave alone: for each, one lemma with every part of the state it keeps.
-/

namespace Sys2Proof.Machine

open Sys2Proof

@[simp] theorem setPeer_keeps (n : Station) (f : Peer → Peer) (s : State) :
    (setPeer n f s).cas = s.cas ∧ (setPeer n f s).ntg = s.ntg ∧ (setPeer n f s).dsp = s.dsp ∧ (setPeer n f s).drw =
    s.drw ∧ (setPeer n f s).ink = s.ink ∧ (setPeer n f s).pkt = s.pkt ∧ (setPeer n f s).alm = s.alm ∧ (setPeer n f
    s).biu = s.biu ∧ (setPeer n f s).cmd = s.cmd ∧ (setPeer n f s).lsv = s.lsv ∧ (setPeer n f s).lines = s.lines ∧
    (setPeer n f s).outputs = s.outputs ∧ (setPeer n f s).pending = s.pending ∧ (setPeer n f s).pt.view = s.pt.view ∧
    (setPeer n f s).pt.listenIn = s.pt.listenIn ∧ (setPeer n f s).pt.wallLimit = s.pt.wallLimit ∧ (setPeer n f
    s).pt.quietEnded = s.pt.quietEnded ∧ (setPeer n f s).pt.stuckSeen = s.pt.stuckSeen ∧ (setPeer n f
    s).pt.statusTimer = s.pt.statusTimer := by
  simp [setPeer]

@[simp] theorem setOwnExposure_keeps (amount : Nat) (s : State) :
    (setOwnExposure amount s).cas = s.cas ∧ (setOwnExposure amount s).ntg = s.ntg ∧ (setOwnExposure amount s).dsp =
    s.dsp ∧ (setOwnExposure amount s).drw = s.drw ∧ (setOwnExposure amount s).ink = s.ink ∧ (setOwnExposure amount
    s).pkt = s.pkt ∧ (setOwnExposure amount s).alm = s.alm ∧ (setOwnExposure amount s).biu = s.biu ∧ (setOwnExposure
    amount s).cmd = s.cmd ∧ (setOwnExposure amount s).lsv = s.lsv ∧ (setOwnExposure amount s).lines = s.lines ∧
    (setOwnExposure amount s).outputs = s.outputs ∧ (setOwnExposure amount s).pending = s.pending ∧ (setOwnExposure
    amount s).pt.view = s.pt.view ∧ (setOwnExposure amount s).pt.listenIn = s.pt.listenIn ∧ (setOwnExposure amount
    s).pt.wallLimit = s.pt.wallLimit ∧ (setOwnExposure amount s).pt.quietEnded = s.pt.quietEnded ∧ (setOwnExposure
    amount s).pt.stuckSeen = s.pt.stuckSeen ∧ (setOwnExposure amount s).pt.statusTimer = s.pt.statusTimer := by
  simp [setOwnExposure]

@[simp] theorem queueWall_keeps (item : WallItem) (s : State) :
    (queueWall item s).cas = s.cas ∧ (queueWall item s).ntg = s.ntg ∧ (queueWall item s).dsp = s.dsp ∧ (queueWall item
    s).drw = s.drw ∧ (queueWall item s).ink = s.ink ∧ (queueWall item s).pkt = s.pkt ∧ (queueWall item s).pt = s.pt ∧
    (queueWall item s).alm = s.alm ∧ (queueWall item s).cmd = s.cmd ∧ (queueWall item s).lsv = s.lsv ∧ (queueWall item
    s).lines = s.lines ∧ (queueWall item s).outputs = s.outputs ∧ (queueWall item s).pending = s.pending ∧ (queueWall
    item s).biu.slow = s.biu.slow ∧ (queueWall item s).biu.attempt = s.biu.attempt ∧ (queueWall item
    s).biu.lastOutcome = s.biu.lastOutcome ∧ (queueWall item s).biu.alarmFlag = s.biu.alarmFlag ∧ (queueWall item
    s).biu.fifo = s.biu.fifo ∧ (queueWall item s).biu.statusFlag = s.biu.statusFlag ∧ (queueWall item s).biu.voidCount
    = s.biu.voidCount ∧ (queueWall item s).biu.quiet = s.biu.quiet ∧ (queueWall item s).biu.stuck = s.biu.stuck ∧
    (queueWall item s).biu.broken = s.biu.broken := by
  simp [queueWall]

@[simp] theorem dropWall_keeps (item : WallItem) (s : State) :
    (dropWall item s).cas = s.cas ∧ (dropWall item s).ntg = s.ntg ∧ (dropWall item s).dsp = s.dsp ∧ (dropWall item
    s).drw = s.drw ∧ (dropWall item s).ink = s.ink ∧ (dropWall item s).pkt = s.pkt ∧ (dropWall item s).pt = s.pt ∧
    (dropWall item s).alm = s.alm ∧ (dropWall item s).cmd = s.cmd ∧ (dropWall item s).lsv = s.lsv ∧ (dropWall item
    s).lines = s.lines ∧ (dropWall item s).outputs = s.outputs ∧ (dropWall item s).pending = s.pending ∧ (dropWall
    item s).biu.slow = s.biu.slow ∧ (dropWall item s).biu.attempt = s.biu.attempt ∧ (dropWall item s).biu.lastOutcome
    = s.biu.lastOutcome ∧ (dropWall item s).biu.alarmFlag = s.biu.alarmFlag ∧ (dropWall item s).biu.fifo = s.biu.fifo
    ∧ (dropWall item s).biu.statusFlag = s.biu.statusFlag ∧ (dropWall item s).biu.voidCount = s.biu.voidCount ∧
    (dropWall item s).biu.quiet = s.biu.quiet ∧ (dropWall item s).biu.stuck = s.biu.stuck ∧ (dropWall item
    s).biu.broken = s.biu.broken := by
  simp [dropWall]

@[simp] theorem queueEvent_keeps (kind : Nat) (payload : List Byte) (s : State) :
    (queueEvent kind payload s).cas = s.cas ∧ (queueEvent kind payload s).ntg = s.ntg ∧ (queueEvent kind payload
    s).dsp = s.dsp ∧ (queueEvent kind payload s).drw = s.drw ∧ (queueEvent kind payload s).ink = s.ink ∧ (queueEvent
    kind payload s).pkt = s.pkt ∧ (queueEvent kind payload s).pt = s.pt ∧ (queueEvent kind payload s).alm = s.alm ∧
    (queueEvent kind payload s).lsv = s.lsv ∧ (queueEvent kind payload s).lines = s.lines ∧ (queueEvent kind payload
    s).outputs = s.outputs ∧ (queueEvent kind payload s).pending = s.pending ∧ (queueEvent kind payload s).biu.slow =
    s.biu.slow ∧ (queueEvent kind payload s).biu.attempt = s.biu.attempt ∧ (queueEvent kind payload s).biu.lastOutcome
    = s.biu.lastOutcome ∧ (queueEvent kind payload s).biu.alarmFlag = s.biu.alarmFlag ∧ (queueEvent kind payload
    s).biu.wallQueue = s.biu.wallQueue ∧ (queueEvent kind payload s).biu.statusFlag = s.biu.statusFlag ∧ (queueEvent
    kind payload s).biu.voidCount = s.biu.voidCount ∧ (queueEvent kind payload s).biu.quiet = s.biu.quiet ∧
    (queueEvent kind payload s).biu.stuck = s.biu.stuck ∧ (queueEvent kind payload s).biu.broken = s.biu.broken ∧
    (queueEvent kind payload s).cmd.owner = s.cmd.owner ∧ (queueEvent kind payload s).cmd.acked = s.cmd.acked := by
  unfold queueEvent
  dsimp only
  (repeat' split) <;> simp

@[simp] theorem fillFrame_keeps (what : Reservation) (f : OutFrame) (s : State) :
    (fillFrame what f s).cas = s.cas ∧ (fillFrame what f s).ntg = s.ntg ∧ (fillFrame what f s).dsp = s.dsp ∧
    (fillFrame what f s).drw = s.drw ∧ (fillFrame what f s).ink = s.ink ∧ (fillFrame what f s).pkt = s.pkt ∧
    (fillFrame what f s).pt = s.pt ∧ (fillFrame what f s).alm = s.alm ∧ (fillFrame what f s).cmd = s.cmd ∧ (fillFrame
    what f s).lsv = s.lsv ∧ (fillFrame what f s).lines = s.lines ∧ (fillFrame what f s).outputs = s.outputs ∧
    (fillFrame what f s).pending = s.pending ∧ (fillFrame what f s).biu.slow = s.biu.slow ∧ (fillFrame what f
    s).biu.attempt = s.biu.attempt ∧ (fillFrame what f s).biu.lastOutcome = s.biu.lastOutcome ∧ (fillFrame what f
    s).biu.alarmFlag = s.biu.alarmFlag ∧ (fillFrame what f s).biu.wallQueue = s.biu.wallQueue ∧ (fillFrame what f
    s).biu.statusFlag = s.biu.statusFlag ∧ (fillFrame what f s).biu.voidCount = s.biu.voidCount ∧ (fillFrame what f
    s).biu.quiet = s.biu.quiet ∧ (fillFrame what f s).biu.stuck = s.biu.stuck ∧ (fillFrame what f s).biu.broken =
    s.biu.broken := by
  simp [fillFrame]

@[simp] theorem dropReservations_keeps (s : State) :
    (dropReservations s).cas = s.cas ∧ (dropReservations s).ntg = s.ntg ∧ (dropReservations s).dsp = s.dsp ∧
    (dropReservations s).drw = s.drw ∧ (dropReservations s).ink = s.ink ∧ (dropReservations s).pkt = s.pkt ∧
    (dropReservations s).pt = s.pt ∧ (dropReservations s).alm = s.alm ∧ (dropReservations s).lsv = s.lsv ∧
    (dropReservations s).lines = s.lines ∧ (dropReservations s).outputs = s.outputs ∧ (dropReservations s).pending =
    s.pending ∧ (dropReservations s).biu.slow = s.biu.slow ∧ (dropReservations s).biu.attempt = s.biu.attempt ∧
    (dropReservations s).biu.lastOutcome = s.biu.lastOutcome ∧ (dropReservations s).biu.alarmFlag = s.biu.alarmFlag ∧
    (dropReservations s).biu.wallQueue = s.biu.wallQueue ∧ (dropReservations s).biu.statusFlag = s.biu.statusFlag ∧
    (dropReservations s).biu.voidCount = s.biu.voidCount ∧ (dropReservations s).biu.quiet = s.biu.quiet ∧
    (dropReservations s).biu.stuck = s.biu.stuck ∧ (dropReservations s).biu.broken = s.biu.broken ∧ (dropReservations
    s).cmd.owner = s.cmd.owner ∧ (dropReservations s).cmd.eventGap = s.cmd.eventGap := by
  simp [dropReservations]

@[simp] theorem drawerEvent_keeps (cause : DrwCause) (purpose : Purpose) (jam : DrwJam) (s : State) :
    (drawerEvent cause purpose jam s).cas = s.cas ∧ (drawerEvent cause purpose jam s).ntg = s.ntg ∧ (drawerEvent cause
    purpose jam s).dsp = s.dsp ∧ (drawerEvent cause purpose jam s).drw = s.drw ∧ (drawerEvent cause purpose jam s).ink
    = s.ink ∧ (drawerEvent cause purpose jam s).pkt = s.pkt ∧ (drawerEvent cause purpose jam s).pt = s.pt ∧
    (drawerEvent cause purpose jam s).alm = s.alm ∧ (drawerEvent cause purpose jam s).lsv = s.lsv ∧ (drawerEvent cause
    purpose jam s).lines = s.lines ∧ (drawerEvent cause purpose jam s).outputs = s.outputs ∧ (drawerEvent cause
    purpose jam s).pending = s.pending ∧ (drawerEvent cause purpose jam s).biu.slow = s.biu.slow ∧ (drawerEvent cause
    purpose jam s).biu.attempt = s.biu.attempt ∧ (drawerEvent cause purpose jam s).biu.lastOutcome = s.biu.lastOutcome
    ∧ (drawerEvent cause purpose jam s).biu.alarmFlag = s.biu.alarmFlag ∧ (drawerEvent cause purpose jam
    s).biu.wallQueue = s.biu.wallQueue ∧ (drawerEvent cause purpose jam s).biu.statusFlag = s.biu.statusFlag ∧
    (drawerEvent cause purpose jam s).biu.voidCount = s.biu.voidCount ∧ (drawerEvent cause purpose jam s).biu.quiet =
    s.biu.quiet ∧ (drawerEvent cause purpose jam s).biu.stuck = s.biu.stuck ∧ (drawerEvent cause purpose jam
    s).biu.broken = s.biu.broken ∧ (drawerEvent cause purpose jam s).cmd.owner = s.cmd.owner ∧ (drawerEvent cause
    purpose jam s).cmd.acked = s.cmd.acked := by
  simp [drawerEvent]

@[simp] theorem trayItem_keeps (reason : TrayReason) (seq : Nat) (s : State) :
    (trayItem reason seq s).cas = s.cas ∧ (trayItem reason seq s).ntg = s.ntg ∧ (trayItem reason seq s).dsp = s.dsp ∧
    (trayItem reason seq s).drw = s.drw ∧ (trayItem reason seq s).ink = s.ink ∧ (trayItem reason seq s).pkt = s.pkt ∧
    (trayItem reason seq s).pt = s.pt ∧ (trayItem reason seq s).alm = s.alm ∧ (trayItem reason seq s).lsv = s.lsv ∧
    (trayItem reason seq s).lines = s.lines ∧ (trayItem reason seq s).outputs = s.outputs ∧ (trayItem reason seq
    s).pending = s.pending ∧ (trayItem reason seq s).biu.slow = s.biu.slow ∧ (trayItem reason seq s).biu.attempt =
    s.biu.attempt ∧ (trayItem reason seq s).biu.lastOutcome = s.biu.lastOutcome ∧ (trayItem reason seq
    s).biu.alarmFlag = s.biu.alarmFlag ∧ (trayItem reason seq s).biu.wallQueue = s.biu.wallQueue ∧ (trayItem reason
    seq s).biu.statusFlag = s.biu.statusFlag ∧ (trayItem reason seq s).biu.voidCount = s.biu.voidCount ∧ (trayItem
    reason seq s).biu.quiet = s.biu.quiet ∧ (trayItem reason seq s).biu.stuck = s.biu.stuck ∧ (trayItem reason seq
    s).biu.broken = s.biu.broken ∧ (trayItem reason seq s).cmd.owner = s.cmd.owner ∧ (trayItem reason seq s).cmd.acked
    = s.cmd.acked := by
  simp [trayItem]

@[simp] theorem hear_keeps (source : Station) (s : State) :
    (hear source s).cas = s.cas ∧ (hear source s).ntg = s.ntg ∧ (hear source s).dsp = s.dsp ∧ (hear source s).drw =
    s.drw ∧ (hear source s).ink = s.ink ∧ (hear source s).pkt = s.pkt ∧ (hear source s).alm = s.alm ∧ (hear source
    s).cmd = s.cmd ∧ (hear source s).lsv = s.lsv ∧ (hear source s).lines = s.lines ∧ (hear source s).outputs =
    s.outputs ∧ (hear source s).pending = s.pending ∧ (hear source s).pt.view = s.pt.view ∧ (hear source
    s).pt.listenIn = s.pt.listenIn ∧ (hear source s).pt.wallLimit = s.pt.wallLimit ∧ (hear source s).pt.quietEnded =
    s.pt.quietEnded ∧ (hear source s).pt.stuckSeen = s.pt.stuckSeen ∧ (hear source s).pt.statusTimer =
    s.pt.statusTimer ∧ (hear source s).biu.slow = s.biu.slow ∧ (hear source s).biu.attempt = s.biu.attempt ∧ (hear
    source s).biu.lastOutcome = s.biu.lastOutcome ∧ (hear source s).biu.alarmFlag = s.biu.alarmFlag ∧ (hear source
    s).biu.wallQueue = s.biu.wallQueue ∧ (hear source s).biu.fifo = s.biu.fifo ∧ (hear source s).biu.statusFlag =
    s.biu.statusFlag ∧ (hear source s).biu.quiet = s.biu.quiet ∧ (hear source s).biu.stuck = s.biu.stuck := by
  unfold hear
  dsimp only
  (repeat' split) <;> simp

@[simp] theorem drive_keeps (o : Output) (s : State) :
    (drive o s).cas = s.cas ∧ (drive o s).ntg = s.ntg ∧ (drive o s).dsp = s.dsp ∧ (drive o s).drw = s.drw ∧ (drive o
    s).ink = s.ink ∧ (drive o s).pkt = s.pkt ∧ (drive o s).pt = s.pt ∧ (drive o s).alm = s.alm ∧ (drive o s).biu =
    s.biu ∧ (drive o s).cmd = s.cmd ∧ (drive o s).lsv = s.lsv ∧ (drive o s).lines = s.lines ∧ (drive o s).pending =
    s.pending := by
  simp [drive]

@[simp] theorem ackSlot_keeps (f : RxFrame) (s : State) :
    (ackSlot f s).cas = s.cas ∧ (ackSlot f s).ntg = s.ntg ∧ (ackSlot f s).dsp = s.dsp ∧ (ackSlot f s).drw = s.drw ∧
    (ackSlot f s).ink = s.ink ∧ (ackSlot f s).pkt = s.pkt ∧ (ackSlot f s).pt = s.pt ∧ (ackSlot f s).alm = s.alm ∧
    (ackSlot f s).biu = s.biu ∧ (ackSlot f s).cmd = s.cmd ∧ (ackSlot f s).lsv = s.lsv ∧ (ackSlot f s).lines = s.lines
    ∧ (ackSlot f s).pending = s.pending := by
  simp only [ackSlot]; (repeat' split) <;> simp

@[simp] theorem sample_keeps (lines : Lines) (s : State) :
    (sample lines s).cas = s.cas ∧ (sample lines s).ntg = s.ntg ∧ (sample lines s).dsp = s.dsp ∧ (sample lines s).drw
    = s.drw ∧ (sample lines s).ink = s.ink ∧ (sample lines s).pkt = s.pkt ∧ (sample lines s).pt = s.pt ∧ (sample lines
    s).alm = s.alm ∧ (sample lines s).biu = s.biu ∧ (sample lines s).cmd = s.cmd ∧ (sample lines s).lsv = s.lsv ∧
    (sample lines s).outputs = s.outputs ∧ (sample lines s).pending = s.pending := by
  simp [sample]

@[simp] theorem refuse_keeps (code : Code) (s : State) :
    (refuse code s).1.cas = s.cas ∧ (refuse code s).1.ntg = s.ntg ∧ (refuse code s).1.dsp = s.dsp ∧ (refuse code
    s).1.drw = s.drw ∧ (refuse code s).1.ink = s.ink ∧ (refuse code s).1.pkt = s.pkt ∧ (refuse code s).1.pt = s.pt ∧
    (refuse code s).1.alm = s.alm ∧ (refuse code s).1.biu = s.biu ∧ (refuse code s).1.cmd = s.cmd ∧ (refuse code
    s).1.lsv = s.lsv ∧ (refuse code s).1.lines = s.lines ∧ (refuse code s).1.outputs = s.outputs ∧ (refuse code
    s).1.pending = s.pending := by
  simp [refuse]

@[simp] theorem cassetteEvent_keeps (k : Slot) (cause : CasCause) (s : State) :
    (cassetteEvent k cause s).cas = s.cas ∧ (cassetteEvent k cause s).ntg = s.ntg ∧ (cassetteEvent k cause s).dsp =
    s.dsp ∧ (cassetteEvent k cause s).drw = s.drw ∧ (cassetteEvent k cause s).ink = s.ink ∧ (cassetteEvent k cause
    s).pkt = s.pkt ∧ (cassetteEvent k cause s).pt = s.pt ∧ (cassetteEvent k cause s).alm = s.alm ∧ (cassetteEvent k
    cause s).lsv = s.lsv ∧ (cassetteEvent k cause s).lines = s.lines ∧ (cassetteEvent k cause s).outputs = s.outputs ∧
    (cassetteEvent k cause s).pending = s.pending ∧ (cassetteEvent k cause s).biu.slow = s.biu.slow ∧ (cassetteEvent k
    cause s).biu.attempt = s.biu.attempt ∧ (cassetteEvent k cause s).biu.lastOutcome = s.biu.lastOutcome ∧
    (cassetteEvent k cause s).biu.alarmFlag = s.biu.alarmFlag ∧ (cassetteEvent k cause s).biu.wallQueue =
    s.biu.wallQueue ∧ (cassetteEvent k cause s).biu.statusFlag = s.biu.statusFlag ∧ (cassetteEvent k cause
    s).biu.voidCount = s.biu.voidCount ∧ (cassetteEvent k cause s).biu.quiet = s.biu.quiet ∧ (cassetteEvent k cause
    s).biu.stuck = s.biu.stuck ∧ (cassetteEvent k cause s).biu.broken = s.biu.broken ∧ (cassetteEvent k cause
    s).cmd.owner = s.cmd.owner ∧ (cassetteEvent k cause s).cmd.acked = s.cmd.acked := by
  simp [cassetteEvent]

@[simp] theorem casApply_keeps (k : Slot) (f : Cassette → Cassette × Option CasCause) (s : State) :
    (casApply k f s).ntg = s.ntg ∧ (casApply k f s).dsp = s.dsp ∧ (casApply k f s).drw = s.drw ∧ (casApply k f s).ink
    = s.ink ∧ (casApply k f s).pkt = s.pkt ∧ (casApply k f s).pt = s.pt ∧ (casApply k f s).alm = s.alm ∧ (casApply k f
    s).lsv = s.lsv ∧ (casApply k f s).lines = s.lines ∧ (casApply k f s).outputs = s.outputs ∧ (casApply k f
    s).pending = s.pending ∧ (casApply k f s).biu.slow = s.biu.slow ∧ (casApply k f s).biu.attempt = s.biu.attempt ∧
    (casApply k f s).biu.lastOutcome = s.biu.lastOutcome ∧ (casApply k f s).biu.alarmFlag = s.biu.alarmFlag ∧
    (casApply k f s).biu.wallQueue = s.biu.wallQueue ∧ (casApply k f s).biu.statusFlag = s.biu.statusFlag ∧ (casApply
    k f s).biu.voidCount = s.biu.voidCount ∧ (casApply k f s).biu.quiet = s.biu.quiet ∧ (casApply k f s).biu.stuck =
    s.biu.stuck ∧ (casApply k f s).biu.broken = s.biu.broken ∧ (casApply k f s).cmd.owner = s.cmd.owner ∧ (casApply k
    f s).cmd.acked = s.cmd.acked := by
  unfold casApply
  dsimp only
  (repeat' split) <;> simp

@[simp] theorem settleNtg_keeps (s : State) :
    (settleNtg s).cas = s.cas ∧ (settleNtg s).dsp = s.dsp ∧ (settleNtg s).drw = s.drw ∧ (settleNtg s).ink = s.ink ∧
    (settleNtg s).pkt = s.pkt ∧ (settleNtg s).pt = s.pt ∧ (settleNtg s).alm = s.alm ∧ (settleNtg s).biu = s.biu ∧
    (settleNtg s).cmd = s.cmd ∧ (settleNtg s).lsv = s.lsv ∧ (settleNtg s).lines = s.lines ∧ (settleNtg s).pending =
    s.pending := by
  unfold settleNtg
  dsimp only
  (repeat' split) <;> simp

@[simp] theorem dropWait_keeps (s : State) :
    (dropWait s).cas = s.cas ∧ (dropWait s).ntg = s.ntg ∧ (dropWait s).dsp = s.dsp ∧ (dropWait s).drw = s.drw ∧
    (dropWait s).pkt = s.pkt ∧ (dropWait s).pt = s.pt ∧ (dropWait s).alm = s.alm ∧ (dropWait s).biu = s.biu ∧
    (dropWait s).cmd = s.cmd ∧ (dropWait s).lsv = s.lsv ∧ (dropWait s).lines = s.lines ∧ (dropWait s).outputs =
    s.outputs ∧ (dropWait s).pending = s.pending ∧ (dropWait s).ink.record = s.ink.record ∧ (dropWait
    s).ink.seqCounter = s.ink.seqCounter ∧ (dropWait s).ink.raster = s.ink.raster ∧ (dropWait s).ink.fieldPage =
    s.ink.fieldPage ∧ (dropWait s).ink.fieldCol = s.ink.fieldCol ∧ (dropWait s).ink.energy = s.ink.energy ∧ (dropWait
    s).ink.mirror = s.ink.mirror ∧ (dropWait s).ink.sensor = s.ink.sensor ∧ (dropWait s).ink.sinceClear =
    s.ink.sinceClear ∧ (dropWait s).ink.coveredInRun = s.ink.coveredInRun := by
  unfold dropWait
  dsimp only
  (repeat' split) <;> simp

@[simp] theorem takeDeposit_keeps (s : State) :
    (takeDeposit s).cas = s.cas ∧ (takeDeposit s).ntg = s.ntg ∧ (takeDeposit s).dsp = s.dsp ∧ (takeDeposit s).pkt =
    s.pkt ∧ (takeDeposit s).pt = s.pt ∧ (takeDeposit s).alm = s.alm ∧ (takeDeposit s).biu = s.biu ∧ (takeDeposit
    s).cmd = s.cmd ∧ (takeDeposit s).lsv = s.lsv ∧ (takeDeposit s).lines = s.lines ∧ (takeDeposit s).outputs =
    s.outputs ∧ (takeDeposit s).pending = s.pending ∧ (takeDeposit s).ink.record = s.ink.record ∧ (takeDeposit
    s).ink.seqCounter = s.ink.seqCounter ∧ (takeDeposit s).ink.raster = s.ink.raster ∧ (takeDeposit s).ink.fieldPage =
    s.ink.fieldPage ∧ (takeDeposit s).ink.fieldCol = s.ink.fieldCol ∧ (takeDeposit s).ink.energy = s.ink.energy ∧
    (takeDeposit s).ink.mirror = s.ink.mirror ∧ (takeDeposit s).ink.sensor = s.ink.sensor ∧ (takeDeposit
    s).ink.sinceClear = s.ink.sinceClear ∧ (takeDeposit s).ink.coveredInRun = s.ink.coveredInRun := by
  simp [takeDeposit]

@[simp] theorem takeNotes_keeps (req : NotesReq) (s : State) :
    (takeNotes req s).cas = s.cas ∧ (takeNotes req s).ntg = s.ntg ∧ (takeNotes req s).dsp = s.dsp ∧ (takeNotes req
    s).pkt = s.pkt ∧ (takeNotes req s).pt = s.pt ∧ (takeNotes req s).alm = s.alm ∧ (takeNotes req s).biu = s.biu ∧
    (takeNotes req s).cmd = s.cmd ∧ (takeNotes req s).lsv = s.lsv ∧ (takeNotes req s).lines = s.lines ∧ (takeNotes req
    s).outputs = s.outputs ∧ (takeNotes req s).pending = s.pending ∧ (takeNotes req s).ink.record = s.ink.record ∧
    (takeNotes req s).ink.seqCounter = s.ink.seqCounter ∧ (takeNotes req s).ink.raster = s.ink.raster ∧ (takeNotes req
    s).ink.fieldPage = s.ink.fieldPage ∧ (takeNotes req s).ink.fieldCol = s.ink.fieldCol ∧ (takeNotes req
    s).ink.energy = s.ink.energy ∧ (takeNotes req s).ink.mirror = s.ink.mirror ∧ (takeNotes req s).ink.sensor =
    s.ink.sensor ∧ (takeNotes req s).ink.sinceClear = s.ink.sinceClear ∧ (takeNotes req s).ink.coveredInRun =
    s.ink.coveredInRun := by
  simp [takeNotes]

@[simp] theorem takeReturn_keeps (seq : Nat) (s : State) :
    (takeReturn seq s).cas = s.cas ∧ (takeReturn seq s).ntg = s.ntg ∧ (takeReturn seq s).dsp = s.dsp ∧ (takeReturn seq
    s).pkt = s.pkt ∧ (takeReturn seq s).pt = s.pt ∧ (takeReturn seq s).alm = s.alm ∧ (takeReturn seq s).biu = s.biu ∧
    (takeReturn seq s).cmd = s.cmd ∧ (takeReturn seq s).lsv = s.lsv ∧ (takeReturn seq s).lines = s.lines ∧ (takeReturn
    seq s).outputs = s.outputs ∧ (takeReturn seq s).pending = s.pending ∧ (takeReturn seq s).ink.record = s.ink.record
    ∧ (takeReturn seq s).ink.seqCounter = s.ink.seqCounter ∧ (takeReturn seq s).ink.raster = s.ink.raster ∧
    (takeReturn seq s).ink.fieldPage = s.ink.fieldPage ∧ (takeReturn seq s).ink.fieldCol = s.ink.fieldCol ∧
    (takeReturn seq s).ink.energy = s.ink.energy ∧ (takeReturn seq s).ink.mirror = s.ink.mirror ∧ (takeReturn seq
    s).ink.sensor = s.ink.sensor ∧ (takeReturn seq s).ink.sinceClear = s.ink.sinceClear ∧ (takeReturn seq
    s).ink.coveredInRun = s.ink.coveredInRun := by
  simp [takeReturn]

@[simp] theorem postNotes_keeps (req : NotesReq) (s : State) :
    (postNotes req s).cas = s.cas ∧ (postNotes req s).ntg = s.ntg ∧ (postNotes req s).dsp = s.dsp ∧ (postNotes req
    s).ink = s.ink ∧ (postNotes req s).pkt = s.pkt ∧ (postNotes req s).pt = s.pt ∧ (postNotes req s).alm = s.alm ∧
    (postNotes req s).biu = s.biu ∧ (postNotes req s).cmd = s.cmd ∧ (postNotes req s).lsv = s.lsv ∧ (postNotes req
    s).lines = s.lines ∧ (postNotes req s).outputs = s.outputs ∧ (postNotes req s).pending = s.pending := by
  simp [postNotes]

@[simp] theorem withdrawNotes_keeps (s : State) :
    (withdrawNotes s).cas = s.cas ∧ (withdrawNotes s).ntg = s.ntg ∧ (withdrawNotes s).dsp = s.dsp ∧ (withdrawNotes
    s).ink = s.ink ∧ (withdrawNotes s).pkt = s.pkt ∧ (withdrawNotes s).pt = s.pt ∧ (withdrawNotes s).alm = s.alm ∧
    (withdrawNotes s).biu = s.biu ∧ (withdrawNotes s).cmd = s.cmd ∧ (withdrawNotes s).lsv = s.lsv ∧ (withdrawNotes
    s).lines = s.lines ∧ (withdrawNotes s).outputs = s.outputs ∧ (withdrawNotes s).pending = s.pending := by
  simp [withdrawNotes]

@[simp] theorem retractRequest_keeps (s : State) :
    (retractRequest s).cas = s.cas ∧ (retractRequest s).ntg = s.ntg ∧ (retractRequest s).dsp = s.dsp ∧ (retractRequest
    s).ink = s.ink ∧ (retractRequest s).pkt = s.pkt ∧ (retractRequest s).pt = s.pt ∧ (retractRequest s).alm = s.alm ∧
    (retractRequest s).biu = s.biu ∧ (retractRequest s).cmd = s.cmd ∧ (retractRequest s).lsv = s.lsv ∧ (retractRequest
    s).lines = s.lines ∧ (retractRequest s).outputs = s.outputs ∧ (retractRequest s).pending = s.pending := by
  simp only [retractRequest]; (repeat' split) <;> simp

@[simp] theorem settleDrw_keeps (s : State) :
    (settleDrw s).cas = s.cas ∧ (settleDrw s).ntg = s.ntg ∧ (settleDrw s).pkt = s.pkt ∧ (settleDrw s).pt = s.pt ∧
    (settleDrw s).alm = s.alm ∧ (settleDrw s).lsv = s.lsv ∧ (settleDrw s).lines = s.lines ∧ (settleDrw s).outputs =
    s.outputs ∧ (settleDrw s).pending = s.pending ∧ (settleDrw s).ink.record = s.ink.record ∧ (settleDrw
    s).ink.seqCounter = s.ink.seqCounter ∧ (settleDrw s).ink.raster = s.ink.raster ∧ (settleDrw s).ink.fieldPage =
    s.ink.fieldPage ∧ (settleDrw s).ink.fieldCol = s.ink.fieldCol ∧ (settleDrw s).ink.energy = s.ink.energy ∧
    (settleDrw s).ink.mirror = s.ink.mirror ∧ (settleDrw s).ink.sensor = s.ink.sensor ∧ (settleDrw s).ink.sinceClear =
    s.ink.sinceClear ∧ (settleDrw s).ink.coveredInRun = s.ink.coveredInRun ∧ (settleDrw s).biu.slow = s.biu.slow ∧
    (settleDrw s).biu.attempt = s.biu.attempt ∧ (settleDrw s).biu.lastOutcome = s.biu.lastOutcome ∧ (settleDrw
    s).biu.alarmFlag = s.biu.alarmFlag ∧ (settleDrw s).biu.wallQueue = s.biu.wallQueue ∧ (settleDrw s).biu.statusFlag
    = s.biu.statusFlag ∧ (settleDrw s).biu.voidCount = s.biu.voidCount ∧ (settleDrw s).biu.quiet = s.biu.quiet ∧
    (settleDrw s).biu.stuck = s.biu.stuck ∧ (settleDrw s).biu.broken = s.biu.broken ∧ (settleDrw s).cmd.owner =
    s.cmd.owner ∧ (settleDrw s).cmd.acked = s.cmd.acked := by
  unfold settleDrw
  dsimp only
  (repeat' split) <;> simp

@[simp] theorem dspEnd_keeps (reason : EndReason) (after : DspState) (s : State) :
    (dspEnd reason after s).cas = s.cas ∧ (dspEnd reason after s).ntg = s.ntg ∧ (dspEnd reason after s).drw = s.drw ∧
    (dspEnd reason after s).ink = s.ink ∧ (dspEnd reason after s).pkt = s.pkt ∧ (dspEnd reason after s).alm = s.alm ∧
    (dspEnd reason after s).lsv = s.lsv ∧ (dspEnd reason after s).lines = s.lines ∧ (dspEnd reason after s).outputs =
    s.outputs ∧ (dspEnd reason after s).pending = s.pending ∧ (dspEnd reason after s).pt.view = s.pt.view ∧ (dspEnd
    reason after s).pt.listenIn = s.pt.listenIn ∧ (dspEnd reason after s).pt.wallLimit = s.pt.wallLimit ∧ (dspEnd
    reason after s).pt.quietEnded = s.pt.quietEnded ∧ (dspEnd reason after s).pt.stuckSeen = s.pt.stuckSeen ∧ (dspEnd
    reason after s).pt.statusTimer = s.pt.statusTimer ∧ (dspEnd reason after s).biu.slow = s.biu.slow ∧ (dspEnd reason
    after s).biu.attempt = s.biu.attempt ∧ (dspEnd reason after s).biu.lastOutcome = s.biu.lastOutcome ∧ (dspEnd
    reason after s).biu.alarmFlag = s.biu.alarmFlag ∧ (dspEnd reason after s).biu.statusFlag = s.biu.statusFlag ∧
    (dspEnd reason after s).biu.voidCount = s.biu.voidCount ∧ (dspEnd reason after s).biu.quiet = s.biu.quiet ∧
    (dspEnd reason after s).biu.stuck = s.biu.stuck ∧ (dspEnd reason after s).biu.broken = s.biu.broken ∧ (dspEnd
    reason after s).cmd.owner = s.cmd.owner ∧ (dspEnd reason after s).cmd.acked = s.cmd.acked := by
  unfold dspEnd
  dsimp only
  (repeat' split) <;> simp

@[simp] theorem finishPurge_keeps (s : State) :
    (finishPurge s).cas = s.cas ∧ (finishPurge s).ntg = s.ntg ∧ (finishPurge s).drw = s.drw ∧ (finishPurge s).ink =
    s.ink ∧ (finishPurge s).pkt = s.pkt ∧ (finishPurge s).alm = s.alm ∧ (finishPurge s).lsv = s.lsv ∧ (finishPurge
    s).lines = s.lines ∧ (finishPurge s).outputs = s.outputs ∧ (finishPurge s).pending = s.pending ∧ (finishPurge
    s).pt.view = s.pt.view ∧ (finishPurge s).pt.listenIn = s.pt.listenIn ∧ (finishPurge s).pt.wallLimit =
    s.pt.wallLimit ∧ (finishPurge s).pt.quietEnded = s.pt.quietEnded ∧ (finishPurge s).pt.stuckSeen = s.pt.stuckSeen ∧
    (finishPurge s).pt.statusTimer = s.pt.statusTimer ∧ (finishPurge s).biu.slow = s.biu.slow ∧ (finishPurge
    s).biu.attempt = s.biu.attempt ∧ (finishPurge s).biu.lastOutcome = s.biu.lastOutcome ∧ (finishPurge
    s).biu.alarmFlag = s.biu.alarmFlag ∧ (finishPurge s).biu.statusFlag = s.biu.statusFlag ∧ (finishPurge
    s).biu.voidCount = s.biu.voidCount ∧ (finishPurge s).biu.quiet = s.biu.quiet ∧ (finishPurge s).biu.stuck =
    s.biu.stuck ∧ (finishPurge s).biu.broken = s.biu.broken ∧ (finishPurge s).cmd.owner = s.cmd.owner ∧ (finishPurge
    s).cmd.acked = s.cmd.acked := by
  simp [finishPurge]

@[simp] theorem dspEndByPurge_keeps (reason : EndReason) (s : State) :
    (dspEndByPurge reason s).cas = s.cas ∧ (dspEndByPurge reason s).drw = s.drw ∧ (dspEndByPurge reason s).ink = s.ink
    ∧ (dspEndByPurge reason s).pkt = s.pkt ∧ (dspEndByPurge reason s).alm = s.alm ∧ (dspEndByPurge reason s).lsv =
    s.lsv ∧ (dspEndByPurge reason s).lines = s.lines ∧ (dspEndByPurge reason s).outputs = s.outputs ∧ (dspEndByPurge
    reason s).pending = s.pending ∧ (dspEndByPurge reason s).pt.view = s.pt.view ∧ (dspEndByPurge reason
    s).pt.listenIn = s.pt.listenIn ∧ (dspEndByPurge reason s).pt.wallLimit = s.pt.wallLimit ∧ (dspEndByPurge reason
    s).pt.quietEnded = s.pt.quietEnded ∧ (dspEndByPurge reason s).pt.stuckSeen = s.pt.stuckSeen ∧ (dspEndByPurge
    reason s).pt.statusTimer = s.pt.statusTimer ∧ (dspEndByPurge reason s).biu.slow = s.biu.slow ∧ (dspEndByPurge
    reason s).biu.attempt = s.biu.attempt ∧ (dspEndByPurge reason s).biu.lastOutcome = s.biu.lastOutcome ∧
    (dspEndByPurge reason s).biu.alarmFlag = s.biu.alarmFlag ∧ (dspEndByPurge reason s).biu.statusFlag =
    s.biu.statusFlag ∧ (dspEndByPurge reason s).biu.voidCount = s.biu.voidCount ∧ (dspEndByPurge reason s).biu.quiet =
    s.biu.quiet ∧ (dspEndByPurge reason s).biu.stuck = s.biu.stuck ∧ (dspEndByPurge reason s).biu.broken =
    s.biu.broken ∧ (dspEndByPurge reason s).cmd.owner = s.cmd.owner ∧ (dspEndByPurge reason s).cmd.acked = s.cmd.acked := by
  unfold dspEndByPurge
  dsimp only
  (repeat' split) <;> simp

@[simp] theorem dspEndReserving_keeps (reason : EndReason) (s : State) :
    (dspEndReserving reason s).cas = s.cas ∧ (dspEndReserving reason s).ntg = s.ntg ∧ (dspEndReserving reason s).drw =
    s.drw ∧ (dspEndReserving reason s).ink = s.ink ∧ (dspEndReserving reason s).pkt = s.pkt ∧ (dspEndReserving reason
    s).alm = s.alm ∧ (dspEndReserving reason s).lsv = s.lsv ∧ (dspEndReserving reason s).lines = s.lines ∧
    (dspEndReserving reason s).outputs = s.outputs ∧ (dspEndReserving reason s).pending = s.pending ∧ (dspEndReserving
    reason s).pt.view = s.pt.view ∧ (dspEndReserving reason s).pt.listenIn = s.pt.listenIn ∧ (dspEndReserving reason
    s).pt.wallLimit = s.pt.wallLimit ∧ (dspEndReserving reason s).pt.quietEnded = s.pt.quietEnded ∧ (dspEndReserving
    reason s).pt.stuckSeen = s.pt.stuckSeen ∧ (dspEndReserving reason s).pt.statusTimer = s.pt.statusTimer ∧
    (dspEndReserving reason s).biu.slow = s.biu.slow ∧ (dspEndReserving reason s).biu.attempt = s.biu.attempt ∧
    (dspEndReserving reason s).biu.lastOutcome = s.biu.lastOutcome ∧ (dspEndReserving reason s).biu.alarmFlag =
    s.biu.alarmFlag ∧ (dspEndReserving reason s).biu.statusFlag = s.biu.statusFlag ∧ (dspEndReserving reason
    s).biu.voidCount = s.biu.voidCount ∧ (dspEndReserving reason s).biu.quiet = s.biu.quiet ∧ (dspEndReserving reason
    s).biu.stuck = s.biu.stuck ∧ (dspEndReserving reason s).biu.broken = s.biu.broken ∧ (dspEndReserving reason
    s).cmd.owner = s.cmd.owner ∧ (dspEndReserving reason s).cmd.acked = s.cmd.acked := by
  unfold dspEndReserving
  dsimp only
  (repeat' split) <;> simp

@[simp] theorem dspFault_keeps (s : State) :
    (dspFault s).cas = s.cas ∧ (dspFault s).drw = s.drw ∧ (dspFault s).ink = s.ink ∧ (dspFault s).pkt = s.pkt ∧
    (dspFault s).alm = s.alm ∧ (dspFault s).lsv = s.lsv ∧ (dspFault s).lines = s.lines ∧ (dspFault s).outputs =
    s.outputs ∧ (dspFault s).pending = s.pending ∧ (dspFault s).pt.view = s.pt.view ∧ (dspFault s).pt.listenIn =
    s.pt.listenIn ∧ (dspFault s).pt.wallLimit = s.pt.wallLimit ∧ (dspFault s).pt.quietEnded = s.pt.quietEnded ∧
    (dspFault s).pt.stuckSeen = s.pt.stuckSeen ∧ (dspFault s).pt.statusTimer = s.pt.statusTimer ∧ (dspFault
    s).biu.slow = s.biu.slow ∧ (dspFault s).biu.attempt = s.biu.attempt ∧ (dspFault s).biu.lastOutcome =
    s.biu.lastOutcome ∧ (dspFault s).biu.alarmFlag = s.biu.alarmFlag ∧ (dspFault s).biu.statusFlag = s.biu.statusFlag
    ∧ (dspFault s).biu.voidCount = s.biu.voidCount ∧ (dspFault s).biu.quiet = s.biu.quiet ∧ (dspFault s).biu.stuck =
    s.biu.stuck ∧ (dspFault s).biu.broken = s.biu.broken ∧ (dspFault s).cmd.owner = s.cmd.owner ∧ (dspFault
    s).cmd.acked = s.cmd.acked := by
  unfold dspFault
  dsimp only
  (repeat' split) <;> simp

@[simp] theorem faultReport_keeps (s : State) :
    (faultReport s).cas = s.cas ∧ (faultReport s).drw = s.drw ∧ (faultReport s).ink = s.ink ∧ (faultReport s).pkt =
    s.pkt ∧ (faultReport s).alm = s.alm ∧ (faultReport s).lines = s.lines ∧ (faultReport s).outputs = s.outputs ∧
    (faultReport s).pending = s.pending ∧ (faultReport s).pt.view = s.pt.view ∧ (faultReport s).pt.listenIn =
    s.pt.listenIn ∧ (faultReport s).pt.wallLimit = s.pt.wallLimit ∧ (faultReport s).pt.quietEnded = s.pt.quietEnded ∧
    (faultReport s).pt.stuckSeen = s.pt.stuckSeen ∧ (faultReport s).pt.statusTimer = s.pt.statusTimer ∧ (faultReport
    s).biu.slow = s.biu.slow ∧ (faultReport s).biu.attempt = s.biu.attempt ∧ (faultReport s).biu.lastOutcome =
    s.biu.lastOutcome ∧ (faultReport s).biu.alarmFlag = s.biu.alarmFlag ∧ (faultReport s).biu.statusFlag =
    s.biu.statusFlag ∧ (faultReport s).biu.voidCount = s.biu.voidCount ∧ (faultReport s).biu.quiet = s.biu.quiet ∧
    (faultReport s).biu.stuck = s.biu.stuck ∧ (faultReport s).biu.broken = s.biu.broken ∧ (faultReport s).cmd.owner =
    s.cmd.owner ∧ (faultReport s).cmd.acked = s.cmd.acked ∧ (faultReport s).lsv.station = s.lsv.station ∧ (faultReport
    s).lsv.stage = s.lsv.stage ∧ (faultReport s).lsv.transportDone = s.lsv.transportDone ∧ (faultReport s).lsv.gotLane
    = s.lsv.gotLane ∧ (faultReport s).lsv.gotBins = s.lsv.gotBins ∧ (faultReport s).lsv.serviceTimer =
    s.lsv.serviceTimer ∧ (faultReport s).lsv.heldRestarts = s.lsv.heldRestarts := by
  unfold faultReport
  dsimp only
  (repeat' split) <;> simp

@[simp] theorem ntgJam_keeps (cause : HaltCause) (s : State) :
    (ntgJam cause s).cas = s.cas ∧ (ntgJam cause s).drw = s.drw ∧ (ntgJam cause s).ink = s.ink ∧ (ntgJam cause s).pkt
    = s.pkt ∧ (ntgJam cause s).alm = s.alm ∧ (ntgJam cause s).lines = s.lines ∧ (ntgJam cause s).outputs = s.outputs ∧
    (ntgJam cause s).pending = s.pending ∧ (ntgJam cause s).pt.view = s.pt.view ∧ (ntgJam cause s).pt.listenIn =
    s.pt.listenIn ∧ (ntgJam cause s).pt.wallLimit = s.pt.wallLimit ∧ (ntgJam cause s).pt.quietEnded = s.pt.quietEnded
    ∧ (ntgJam cause s).pt.stuckSeen = s.pt.stuckSeen ∧ (ntgJam cause s).pt.statusTimer = s.pt.statusTimer ∧ (ntgJam
    cause s).biu.slow = s.biu.slow ∧ (ntgJam cause s).biu.attempt = s.biu.attempt ∧ (ntgJam cause s).biu.lastOutcome =
    s.biu.lastOutcome ∧ (ntgJam cause s).biu.alarmFlag = s.biu.alarmFlag ∧ (ntgJam cause s).biu.statusFlag =
    s.biu.statusFlag ∧ (ntgJam cause s).biu.voidCount = s.biu.voidCount ∧ (ntgJam cause s).biu.quiet = s.biu.quiet ∧
    (ntgJam cause s).biu.stuck = s.biu.stuck ∧ (ntgJam cause s).biu.broken = s.biu.broken ∧ (ntgJam cause s).cmd.owner
    = s.cmd.owner ∧ (ntgJam cause s).cmd.acked = s.cmd.acked ∧ (ntgJam cause s).lsv.station = s.lsv.station ∧ (ntgJam
    cause s).lsv.stage = s.lsv.stage ∧ (ntgJam cause s).lsv.transportDone = s.lsv.transportDone ∧ (ntgJam cause
    s).lsv.gotLane = s.lsv.gotLane ∧ (ntgJam cause s).lsv.gotBins = s.lsv.gotBins ∧ (ntgJam cause s).lsv.serviceTimer
    = s.lsv.serviceTimer ∧ (ntgJam cause s).lsv.heldRestarts = s.lsv.heldRestarts := by
  simp [ntgJam]

@[simp] theorem dspSuspend_keeps (s : State) :
    (dspSuspend s).cas = s.cas ∧ (dspSuspend s).ntg = s.ntg ∧ (dspSuspend s).drw = s.drw ∧ (dspSuspend s).ink = s.ink
    ∧ (dspSuspend s).pkt = s.pkt ∧ (dspSuspend s).pt = s.pt ∧ (dspSuspend s).alm = s.alm ∧ (dspSuspend s).biu = s.biu
    ∧ (dspSuspend s).cmd = s.cmd ∧ (dspSuspend s).lsv = s.lsv ∧ (dspSuspend s).lines = s.lines ∧ (dspSuspend
    s).outputs = s.outputs ∧ (dspSuspend s).pending = s.pending := by
  simp [dspSuspend]

@[simp] theorem dspActivate_keeps (s : State) :
    (dspActivate s).cas = s.cas ∧ (dspActivate s).ink = s.ink ∧ (dspActivate s).pkt = s.pkt ∧ (dspActivate s).alm =
    s.alm ∧ (dspActivate s).lsv = s.lsv ∧ (dspActivate s).lines = s.lines ∧ (dspActivate s).outputs = s.outputs ∧
    (dspActivate s).pending = s.pending ∧ (dspActivate s).pt.view = s.pt.view ∧ (dspActivate s).pt.listenIn =
    s.pt.listenIn ∧ (dspActivate s).pt.wallLimit = s.pt.wallLimit ∧ (dspActivate s).pt.quietEnded = s.pt.quietEnded ∧
    (dspActivate s).pt.stuckSeen = s.pt.stuckSeen ∧ (dspActivate s).pt.statusTimer = s.pt.statusTimer ∧ (dspActivate
    s).biu.slow = s.biu.slow ∧ (dspActivate s).biu.attempt = s.biu.attempt ∧ (dspActivate s).biu.lastOutcome =
    s.biu.lastOutcome ∧ (dspActivate s).biu.alarmFlag = s.biu.alarmFlag ∧ (dspActivate s).biu.statusFlag =
    s.biu.statusFlag ∧ (dspActivate s).biu.voidCount = s.biu.voidCount ∧ (dspActivate s).biu.quiet = s.biu.quiet ∧
    (dspActivate s).biu.stuck = s.biu.stuck ∧ (dspActivate s).biu.broken = s.biu.broken ∧ (dspActivate s).cmd.owner =
    s.cmd.owner ∧ (dspActivate s).cmd.acked = s.cmd.acked := by
  unfold dspActivate
  dsimp only
  (repeat' split) <;> simp

@[simp] theorem dspAccept_keeps (amount : Nat) (mix : Mix) (s : State) :
    (dspAccept amount mix s).cas = s.cas ∧ (dspAccept amount mix s).ntg = s.ntg ∧ (dspAccept amount mix s).drw = s.drw
    ∧ (dspAccept amount mix s).ink = s.ink ∧ (dspAccept amount mix s).pkt = s.pkt ∧ (dspAccept amount mix s).pt = s.pt
    ∧ (dspAccept amount mix s).alm = s.alm ∧ (dspAccept amount mix s).cmd = s.cmd ∧ (dspAccept amount mix s).lsv =
    s.lsv ∧ (dspAccept amount mix s).lines = s.lines ∧ (dspAccept amount mix s).outputs = s.outputs ∧ (dspAccept
    amount mix s).pending = s.pending ∧ (dspAccept amount mix s).biu.slow = s.biu.slow ∧ (dspAccept amount mix
    s).biu.attempt = s.biu.attempt ∧ (dspAccept amount mix s).biu.lastOutcome = s.biu.lastOutcome ∧ (dspAccept amount
    mix s).biu.alarmFlag = s.biu.alarmFlag ∧ (dspAccept amount mix s).biu.fifo = s.biu.fifo ∧ (dspAccept amount mix
    s).biu.statusFlag = s.biu.statusFlag ∧ (dspAccept amount mix s).biu.voidCount = s.biu.voidCount ∧ (dspAccept
    amount mix s).biu.quiet = s.biu.quiet ∧ (dspAccept amount mix s).biu.stuck = s.biu.stuck ∧ (dspAccept amount mix
    s).biu.broken = s.biu.broken := by
  simp [dspAccept]

@[simp] theorem dspDispense_keeps (amount : Nat) (s : State) :
    (dspDispense amount s).1.cas = s.cas ∧ (dspDispense amount s).1.ntg = s.ntg ∧ (dspDispense amount s).1.drw = s.drw
    ∧ (dspDispense amount s).1.ink = s.ink ∧ (dspDispense amount s).1.pkt = s.pkt ∧ (dspDispense amount s).1.pt = s.pt
    ∧ (dspDispense amount s).1.alm = s.alm ∧ (dspDispense amount s).1.cmd = s.cmd ∧ (dspDispense amount s).1.lsv =
    s.lsv ∧ (dspDispense amount s).1.lines = s.lines ∧ (dspDispense amount s).1.outputs = s.outputs ∧ (dspDispense
    amount s).1.pending = s.pending ∧ (dspDispense amount s).1.biu.slow = s.biu.slow ∧ (dspDispense amount
    s).1.biu.attempt = s.biu.attempt ∧ (dspDispense amount s).1.biu.lastOutcome = s.biu.lastOutcome ∧ (dspDispense
    amount s).1.biu.alarmFlag = s.biu.alarmFlag ∧ (dspDispense amount s).1.biu.fifo = s.biu.fifo ∧ (dspDispense amount
    s).1.biu.statusFlag = s.biu.statusFlag ∧ (dspDispense amount s).1.biu.voidCount = s.biu.voidCount ∧ (dspDispense
    amount s).1.biu.quiet = s.biu.quiet ∧ (dspDispense amount s).1.biu.stuck = s.biu.stuck ∧ (dspDispense amount
    s).1.biu.broken = s.biu.broken := by
  simp only [dspDispense]; (repeat' split) <;> simp

@[simp] theorem dspContinue_keeps (s : State) :
    (dspContinue s).1.cas = s.cas ∧ (dspContinue s).1.ink = s.ink ∧ (dspContinue s).1.pkt = s.pkt ∧ (dspContinue
    s).1.alm = s.alm ∧ (dspContinue s).1.lsv = s.lsv ∧ (dspContinue s).1.lines = s.lines ∧ (dspContinue s).1.outputs =
    s.outputs ∧ (dspContinue s).1.pending = s.pending ∧ (dspContinue s).1.pt.view = s.pt.view ∧ (dspContinue
    s).1.pt.listenIn = s.pt.listenIn ∧ (dspContinue s).1.pt.wallLimit = s.pt.wallLimit ∧ (dspContinue
    s).1.pt.quietEnded = s.pt.quietEnded ∧ (dspContinue s).1.pt.stuckSeen = s.pt.stuckSeen ∧ (dspContinue
    s).1.pt.statusTimer = s.pt.statusTimer ∧ (dspContinue s).1.biu.slow = s.biu.slow ∧ (dspContinue s).1.biu.attempt =
    s.biu.attempt ∧ (dspContinue s).1.biu.lastOutcome = s.biu.lastOutcome ∧ (dspContinue s).1.biu.alarmFlag =
    s.biu.alarmFlag ∧ (dspContinue s).1.biu.statusFlag = s.biu.statusFlag ∧ (dspContinue s).1.biu.voidCount =
    s.biu.voidCount ∧ (dspContinue s).1.biu.quiet = s.biu.quiet ∧ (dspContinue s).1.biu.stuck = s.biu.stuck ∧
    (dspContinue s).1.biu.broken = s.biu.broken ∧ (dspContinue s).1.cmd.owner = s.cmd.owner ∧ (dspContinue
    s).1.cmd.acked = s.cmd.acked := by
  unfold dspContinue
  dsimp only
  (repeat' split) <;> simp

@[simp] theorem askBaseline_keeps (s : State) :
    (askBaseline s).cas = s.cas ∧ (askBaseline s).drw = s.drw ∧ (askBaseline s).ink = s.ink ∧ (askBaseline s).pkt =
    s.pkt ∧ (askBaseline s).alm = s.alm ∧ (askBaseline s).lines = s.lines ∧ (askBaseline s).outputs = s.outputs ∧
    (askBaseline s).pending = s.pending ∧ (askBaseline s).pt.view = s.pt.view ∧ (askBaseline s).pt.listenIn =
    s.pt.listenIn ∧ (askBaseline s).pt.wallLimit = s.pt.wallLimit ∧ (askBaseline s).pt.quietEnded = s.pt.quietEnded ∧
    (askBaseline s).pt.stuckSeen = s.pt.stuckSeen ∧ (askBaseline s).pt.statusTimer = s.pt.statusTimer ∧ (askBaseline
    s).biu.slow = s.biu.slow ∧ (askBaseline s).biu.attempt = s.biu.attempt ∧ (askBaseline s).biu.lastOutcome =
    s.biu.lastOutcome ∧ (askBaseline s).biu.alarmFlag = s.biu.alarmFlag ∧ (askBaseline s).biu.statusFlag =
    s.biu.statusFlag ∧ (askBaseline s).biu.voidCount = s.biu.voidCount ∧ (askBaseline s).biu.quiet = s.biu.quiet ∧
    (askBaseline s).biu.stuck = s.biu.stuck ∧ (askBaseline s).biu.broken = s.biu.broken ∧ (askBaseline s).cmd.owner =
    s.cmd.owner ∧ (askBaseline s).cmd.acked = s.cmd.acked ∧ (askBaseline s).lsv.station = s.lsv.station ∧ (askBaseline
    s).lsv.stage = s.lsv.stage ∧ (askBaseline s).lsv.transportDone = s.lsv.transportDone ∧ (askBaseline s).lsv.gotLane
    = s.lsv.gotLane ∧ (askBaseline s).lsv.gotBins = s.lsv.gotBins ∧ (askBaseline s).lsv.serviceTimer =
    s.lsv.serviceTimer ∧ (askBaseline s).lsv.heldRestarts = s.lsv.heldRestarts := by
  unfold askBaseline
  dsimp only
  (repeat' split) <;> simp

@[simp] theorem dspReserved_keeps (o : ReserveOutcome) (s : State) :
    (dspReserved o s).cas = s.cas ∧ (dspReserved o s).drw = s.drw ∧ (dspReserved o s).ink = s.ink ∧ (dspReserved o
    s).pkt = s.pkt ∧ (dspReserved o s).alm = s.alm ∧ (dspReserved o s).lines = s.lines ∧ (dspReserved o s).outputs =
    s.outputs ∧ (dspReserved o s).pending = s.pending ∧ (dspReserved o s).pt.view = s.pt.view ∧ (dspReserved o
    s).pt.listenIn = s.pt.listenIn ∧ (dspReserved o s).pt.wallLimit = s.pt.wallLimit ∧ (dspReserved o s).pt.quietEnded
    = s.pt.quietEnded ∧ (dspReserved o s).pt.stuckSeen = s.pt.stuckSeen ∧ (dspReserved o s).pt.statusTimer =
    s.pt.statusTimer ∧ (dspReserved o s).biu.slow = s.biu.slow ∧ (dspReserved o s).biu.attempt = s.biu.attempt ∧
    (dspReserved o s).biu.lastOutcome = s.biu.lastOutcome ∧ (dspReserved o s).biu.alarmFlag = s.biu.alarmFlag ∧
    (dspReserved o s).biu.statusFlag = s.biu.statusFlag ∧ (dspReserved o s).biu.voidCount = s.biu.voidCount ∧
    (dspReserved o s).biu.quiet = s.biu.quiet ∧ (dspReserved o s).biu.stuck = s.biu.stuck ∧ (dspReserved o
    s).biu.broken = s.biu.broken ∧ (dspReserved o s).cmd.owner = s.cmd.owner ∧ (dspReserved o s).cmd.acked =
    s.cmd.acked ∧ (dspReserved o s).lsv.station = s.lsv.station ∧ (dspReserved o s).lsv.stage = s.lsv.stage ∧
    (dspReserved o s).lsv.transportDone = s.lsv.transportDone ∧ (dspReserved o s).lsv.gotLane = s.lsv.gotLane ∧
    (dspReserved o s).lsv.gotBins = s.lsv.gotBins ∧ (dspReserved o s).lsv.serviceTimer = s.lsv.serviceTimer ∧
    (dspReserved o s).lsv.heldRestarts = s.lsv.heldRestarts := by
  unfold dspReserved
  dsimp only
  (repeat' split) <;> simp

@[simp] theorem dspReserveLost_keeps (s : State) :
    (dspReserveLost s).cas = s.cas ∧ (dspReserveLost s).ntg = s.ntg ∧ (dspReserveLost s).drw = s.drw ∧ (dspReserveLost
    s).ink = s.ink ∧ (dspReserveLost s).pkt = s.pkt ∧ (dspReserveLost s).alm = s.alm ∧ (dspReserveLost s).lsv = s.lsv
    ∧ (dspReserveLost s).lines = s.lines ∧ (dspReserveLost s).outputs = s.outputs ∧ (dspReserveLost s).pending =
    s.pending ∧ (dspReserveLost s).pt.view = s.pt.view ∧ (dspReserveLost s).pt.listenIn = s.pt.listenIn ∧
    (dspReserveLost s).pt.wallLimit = s.pt.wallLimit ∧ (dspReserveLost s).pt.quietEnded = s.pt.quietEnded ∧
    (dspReserveLost s).pt.stuckSeen = s.pt.stuckSeen ∧ (dspReserveLost s).pt.statusTimer = s.pt.statusTimer ∧
    (dspReserveLost s).biu.slow = s.biu.slow ∧ (dspReserveLost s).biu.attempt = s.biu.attempt ∧ (dspReserveLost
    s).biu.lastOutcome = s.biu.lastOutcome ∧ (dspReserveLost s).biu.alarmFlag = s.biu.alarmFlag ∧ (dspReserveLost
    s).biu.statusFlag = s.biu.statusFlag ∧ (dspReserveLost s).biu.voidCount = s.biu.voidCount ∧ (dspReserveLost
    s).biu.quiet = s.biu.quiet ∧ (dspReserveLost s).biu.stuck = s.biu.stuck ∧ (dspReserveLost s).biu.broken =
    s.biu.broken ∧ (dspReserveLost s).cmd.owner = s.cmd.owner ∧ (dspReserveLost s).cmd.acked = s.cmd.acked := by
  simp only [dspReserveLost]; (repeat' split) <;> simp

@[simp] theorem dspQuiet_keeps (s : State) :
    (dspQuiet s).cas = s.cas ∧ (dspQuiet s).ntg = s.ntg ∧ (dspQuiet s).drw = s.drw ∧ (dspQuiet s).ink = s.ink ∧
    (dspQuiet s).pkt = s.pkt ∧ (dspQuiet s).alm = s.alm ∧ (dspQuiet s).lsv = s.lsv ∧ (dspQuiet s).lines = s.lines ∧
    (dspQuiet s).outputs = s.outputs ∧ (dspQuiet s).pending = s.pending ∧ (dspQuiet s).pt.view = s.pt.view ∧ (dspQuiet
    s).pt.listenIn = s.pt.listenIn ∧ (dspQuiet s).pt.wallLimit = s.pt.wallLimit ∧ (dspQuiet s).pt.quietEnded =
    s.pt.quietEnded ∧ (dspQuiet s).pt.stuckSeen = s.pt.stuckSeen ∧ (dspQuiet s).pt.statusTimer = s.pt.statusTimer ∧
    (dspQuiet s).biu.slow = s.biu.slow ∧ (dspQuiet s).biu.attempt = s.biu.attempt ∧ (dspQuiet s).biu.lastOutcome =
    s.biu.lastOutcome ∧ (dspQuiet s).biu.alarmFlag = s.biu.alarmFlag ∧ (dspQuiet s).biu.statusFlag = s.biu.statusFlag
    ∧ (dspQuiet s).biu.voidCount = s.biu.voidCount ∧ (dspQuiet s).biu.quiet = s.biu.quiet ∧ (dspQuiet s).biu.stuck =
    s.biu.stuck ∧ (dspQuiet s).biu.broken = s.biu.broken ∧ (dspQuiet s).cmd.owner = s.cmd.owner ∧ (dspQuiet
    s).cmd.acked = s.cmd.acked := by
  simp only [dspQuiet]; (repeat' split) <;> simp

@[simp] theorem dspBaseline_keeps (ok : Bool) (s : State) :
    (dspBaseline ok s).cas = s.cas ∧ (dspBaseline ok s).ink = s.ink ∧ (dspBaseline ok s).pkt = s.pkt ∧ (dspBaseline ok
    s).alm = s.alm ∧ (dspBaseline ok s).lsv = s.lsv ∧ (dspBaseline ok s).lines = s.lines ∧ (dspBaseline ok s).outputs
    = s.outputs ∧ (dspBaseline ok s).pending = s.pending ∧ (dspBaseline ok s).pt.view = s.pt.view ∧ (dspBaseline ok
    s).pt.listenIn = s.pt.listenIn ∧ (dspBaseline ok s).pt.wallLimit = s.pt.wallLimit ∧ (dspBaseline ok
    s).pt.quietEnded = s.pt.quietEnded ∧ (dspBaseline ok s).pt.stuckSeen = s.pt.stuckSeen ∧ (dspBaseline ok
    s).pt.statusTimer = s.pt.statusTimer ∧ (dspBaseline ok s).biu.slow = s.biu.slow ∧ (dspBaseline ok s).biu.attempt =
    s.biu.attempt ∧ (dspBaseline ok s).biu.lastOutcome = s.biu.lastOutcome ∧ (dspBaseline ok s).biu.alarmFlag =
    s.biu.alarmFlag ∧ (dspBaseline ok s).biu.statusFlag = s.biu.statusFlag ∧ (dspBaseline ok s).biu.voidCount =
    s.biu.voidCount ∧ (dspBaseline ok s).biu.quiet = s.biu.quiet ∧ (dspBaseline ok s).biu.stuck = s.biu.stuck ∧
    (dspBaseline ok s).biu.broken = s.biu.broken ∧ (dspBaseline ok s).cmd.owner = s.cmd.owner ∧ (dspBaseline ok
    s).cmd.acked = s.cmd.acked := by
  unfold dspBaseline
  dsimp only
  (repeat' split) <;> simp

@[simp] theorem dspOnClear_keeps (s : State) :
    (dspOnClear s).cas = s.cas ∧ (dspOnClear s).ink = s.ink ∧ (dspOnClear s).pkt = s.pkt ∧ (dspOnClear s).alm = s.alm
    ∧ (dspOnClear s).lsv = s.lsv ∧ (dspOnClear s).lines = s.lines ∧ (dspOnClear s).outputs = s.outputs ∧ (dspOnClear
    s).pending = s.pending ∧ (dspOnClear s).pt.view = s.pt.view ∧ (dspOnClear s).pt.listenIn = s.pt.listenIn ∧
    (dspOnClear s).pt.wallLimit = s.pt.wallLimit ∧ (dspOnClear s).pt.quietEnded = s.pt.quietEnded ∧ (dspOnClear
    s).pt.stuckSeen = s.pt.stuckSeen ∧ (dspOnClear s).pt.statusTimer = s.pt.statusTimer ∧ (dspOnClear s).biu.slow =
    s.biu.slow ∧ (dspOnClear s).biu.attempt = s.biu.attempt ∧ (dspOnClear s).biu.lastOutcome = s.biu.lastOutcome ∧
    (dspOnClear s).biu.alarmFlag = s.biu.alarmFlag ∧ (dspOnClear s).biu.statusFlag = s.biu.statusFlag ∧ (dspOnClear
    s).biu.voidCount = s.biu.voidCount ∧ (dspOnClear s).biu.quiet = s.biu.quiet ∧ (dspOnClear s).biu.stuck =
    s.biu.stuck ∧ (dspOnClear s).biu.broken = s.biu.broken ∧ (dspOnClear s).cmd.owner = s.cmd.owner ∧ (dspOnClear
    s).cmd.acked = s.cmd.acked := by
  unfold dspOnClear
  dsimp only
  (repeat' split) <;> simp

@[simp] theorem dspSlotCheck_keeps (s : State) :
    (dspSlotCheck s).cas = s.cas ∧ (dspSlotCheck s).ink = s.ink ∧ (dspSlotCheck s).pkt = s.pkt ∧ (dspSlotCheck s).alm
    = s.alm ∧ (dspSlotCheck s).lsv = s.lsv ∧ (dspSlotCheck s).lines = s.lines ∧ (dspSlotCheck s).outputs = s.outputs ∧
    (dspSlotCheck s).pending = s.pending ∧ (dspSlotCheck s).pt.view = s.pt.view ∧ (dspSlotCheck s).pt.listenIn =
    s.pt.listenIn ∧ (dspSlotCheck s).pt.wallLimit = s.pt.wallLimit ∧ (dspSlotCheck s).pt.quietEnded = s.pt.quietEnded
    ∧ (dspSlotCheck s).pt.stuckSeen = s.pt.stuckSeen ∧ (dspSlotCheck s).pt.statusTimer = s.pt.statusTimer ∧
    (dspSlotCheck s).biu.slow = s.biu.slow ∧ (dspSlotCheck s).biu.attempt = s.biu.attempt ∧ (dspSlotCheck
    s).biu.lastOutcome = s.biu.lastOutcome ∧ (dspSlotCheck s).biu.alarmFlag = s.biu.alarmFlag ∧ (dspSlotCheck
    s).biu.statusFlag = s.biu.statusFlag ∧ (dspSlotCheck s).biu.voidCount = s.biu.voidCount ∧ (dspSlotCheck
    s).biu.quiet = s.biu.quiet ∧ (dspSlotCheck s).biu.stuck = s.biu.stuck ∧ (dspSlotCheck s).biu.broken = s.biu.broken
    ∧ (dspSlotCheck s).cmd.owner = s.cmd.owner ∧ (dspSlotCheck s).cmd.acked = s.cmd.acked := by
  unfold dspSlotCheck
  dsimp only
  (repeat' split) <;> simp

@[simp] theorem casReport_keeps (k : Slot) (f : Cassette → Cassette × Option CasCause) (s : State) :
    (casReport k f s).ink = s.ink ∧ (casReport k f s).pkt = s.pkt ∧ (casReport k f s).alm = s.alm ∧ (casReport k f
    s).lsv = s.lsv ∧ (casReport k f s).lines = s.lines ∧ (casReport k f s).outputs = s.outputs ∧ (casReport k f
    s).pending = s.pending ∧ (casReport k f s).pt.view = s.pt.view ∧ (casReport k f s).pt.listenIn = s.pt.listenIn ∧
    (casReport k f s).pt.wallLimit = s.pt.wallLimit ∧ (casReport k f s).pt.quietEnded = s.pt.quietEnded ∧ (casReport k
    f s).pt.stuckSeen = s.pt.stuckSeen ∧ (casReport k f s).pt.statusTimer = s.pt.statusTimer ∧ (casReport k f
    s).biu.slow = s.biu.slow ∧ (casReport k f s).biu.attempt = s.biu.attempt ∧ (casReport k f s).biu.lastOutcome =
    s.biu.lastOutcome ∧ (casReport k f s).biu.alarmFlag = s.biu.alarmFlag ∧ (casReport k f s).biu.statusFlag =
    s.biu.statusFlag ∧ (casReport k f s).biu.voidCount = s.biu.voidCount ∧ (casReport k f s).biu.quiet = s.biu.quiet ∧
    (casReport k f s).biu.stuck = s.biu.stuck ∧ (casReport k f s).biu.broken = s.biu.broken ∧ (casReport k f
    s).cmd.owner = s.cmd.owner ∧ (casReport k f s).cmd.acked = s.cmd.acked := by
  simp [casReport]

@[simp] theorem dspStacked_keeps (r : Routed) (s : State) :
    (dspStacked r s).cas = s.cas ∧ (dspStacked r s).ink = s.ink ∧ (dspStacked r s).pkt = s.pkt ∧ (dspStacked r s).alm
    = s.alm ∧ (dspStacked r s).lsv = s.lsv ∧ (dspStacked r s).lines = s.lines ∧ (dspStacked r s).outputs = s.outputs ∧
    (dspStacked r s).pending = s.pending ∧ (dspStacked r s).pt.view = s.pt.view ∧ (dspStacked r s).pt.listenIn =
    s.pt.listenIn ∧ (dspStacked r s).pt.wallLimit = s.pt.wallLimit ∧ (dspStacked r s).pt.quietEnded = s.pt.quietEnded
    ∧ (dspStacked r s).pt.stuckSeen = s.pt.stuckSeen ∧ (dspStacked r s).pt.statusTimer = s.pt.statusTimer ∧
    (dspStacked r s).biu.slow = s.biu.slow ∧ (dspStacked r s).biu.attempt = s.biu.attempt ∧ (dspStacked r
    s).biu.lastOutcome = s.biu.lastOutcome ∧ (dspStacked r s).biu.alarmFlag = s.biu.alarmFlag ∧ (dspStacked r
    s).biu.statusFlag = s.biu.statusFlag ∧ (dspStacked r s).biu.voidCount = s.biu.voidCount ∧ (dspStacked r
    s).biu.quiet = s.biu.quiet ∧ (dspStacked r s).biu.stuck = s.biu.stuck ∧ (dspStacked r s).biu.broken = s.biu.broken
    ∧ (dspStacked r s).cmd.owner = s.cmd.owner ∧ (dspStacked r s).cmd.acked = s.cmd.acked := by
  unfold dspStacked
  dsimp only
  (repeat' split) <;> simp

@[simp] theorem dspRejected_keeps (r : Routed) (s : State) :
    (dspRejected r s).cas = s.cas ∧ (dspRejected r s).drw = s.drw ∧ (dspRejected r s).ink = s.ink ∧ (dspRejected r
    s).pkt = s.pkt ∧ (dspRejected r s).alm = s.alm ∧ (dspRejected r s).lsv = s.lsv ∧ (dspRejected r s).lines = s.lines
    ∧ (dspRejected r s).outputs = s.outputs ∧ (dspRejected r s).pending = s.pending ∧ (dspRejected r s).pt.view =
    s.pt.view ∧ (dspRejected r s).pt.listenIn = s.pt.listenIn ∧ (dspRejected r s).pt.wallLimit = s.pt.wallLimit ∧
    (dspRejected r s).pt.quietEnded = s.pt.quietEnded ∧ (dspRejected r s).pt.stuckSeen = s.pt.stuckSeen ∧ (dspRejected
    r s).pt.statusTimer = s.pt.statusTimer ∧ (dspRejected r s).biu.slow = s.biu.slow ∧ (dspRejected r s).biu.attempt =
    s.biu.attempt ∧ (dspRejected r s).biu.lastOutcome = s.biu.lastOutcome ∧ (dspRejected r s).biu.alarmFlag =
    s.biu.alarmFlag ∧ (dspRejected r s).biu.statusFlag = s.biu.statusFlag ∧ (dspRejected r s).biu.voidCount =
    s.biu.voidCount ∧ (dspRejected r s).biu.quiet = s.biu.quiet ∧ (dspRejected r s).biu.stuck = s.biu.stuck ∧
    (dspRejected r s).biu.broken = s.biu.broken ∧ (dspRejected r s).cmd.owner = s.cmd.owner ∧ (dspRejected r
    s).cmd.acked = s.cmd.acked := by
  unfold dspRejected
  dsimp only
  (repeat' split) <;> simp

@[simp] theorem dspHandOver_keeps (r : Routed) (s : State) :
    (dspHandOver r s).cas = s.cas ∧ (dspHandOver r s).ink = s.ink ∧ (dspHandOver r s).pkt = s.pkt ∧ (dspHandOver r
    s).alm = s.alm ∧ (dspHandOver r s).lsv = s.lsv ∧ (dspHandOver r s).lines = s.lines ∧ (dspHandOver r s).outputs =
    s.outputs ∧ (dspHandOver r s).pending = s.pending ∧ (dspHandOver r s).pt.view = s.pt.view ∧ (dspHandOver r
    s).pt.listenIn = s.pt.listenIn ∧ (dspHandOver r s).pt.wallLimit = s.pt.wallLimit ∧ (dspHandOver r s).pt.quietEnded
    = s.pt.quietEnded ∧ (dspHandOver r s).pt.stuckSeen = s.pt.stuckSeen ∧ (dspHandOver r s).pt.statusTimer =
    s.pt.statusTimer ∧ (dspHandOver r s).biu.slow = s.biu.slow ∧ (dspHandOver r s).biu.attempt = s.biu.attempt ∧
    (dspHandOver r s).biu.lastOutcome = s.biu.lastOutcome ∧ (dspHandOver r s).biu.alarmFlag = s.biu.alarmFlag ∧
    (dspHandOver r s).biu.statusFlag = s.biu.statusFlag ∧ (dspHandOver r s).biu.voidCount = s.biu.voidCount ∧
    (dspHandOver r s).biu.quiet = s.biu.quiet ∧ (dspHandOver r s).biu.stuck = s.biu.stuck ∧ (dspHandOver r
    s).biu.broken = s.biu.broken ∧ (dspHandOver r s).cmd.owner = s.cmd.owner ∧ (dspHandOver r s).cmd.acked =
    s.cmd.acked := by
  unfold dspHandOver
  dsimp only
  (repeat' split) <;> simp

@[simp] theorem dspTaken_keeps (s : State) :
    (dspTaken s).cas = s.cas ∧ (dspTaken s).ink = s.ink ∧ (dspTaken s).pkt = s.pkt ∧ (dspTaken s).alm = s.alm ∧
    (dspTaken s).lsv = s.lsv ∧ (dspTaken s).lines = s.lines ∧ (dspTaken s).outputs = s.outputs ∧ (dspTaken s).pending
    = s.pending ∧ (dspTaken s).pt.view = s.pt.view ∧ (dspTaken s).pt.listenIn = s.pt.listenIn ∧ (dspTaken
    s).pt.wallLimit = s.pt.wallLimit ∧ (dspTaken s).pt.quietEnded = s.pt.quietEnded ∧ (dspTaken s).pt.stuckSeen =
    s.pt.stuckSeen ∧ (dspTaken s).pt.statusTimer = s.pt.statusTimer ∧ (dspTaken s).biu.slow = s.biu.slow ∧ (dspTaken
    s).biu.attempt = s.biu.attempt ∧ (dspTaken s).biu.lastOutcome = s.biu.lastOutcome ∧ (dspTaken s).biu.alarmFlag =
    s.biu.alarmFlag ∧ (dspTaken s).biu.statusFlag = s.biu.statusFlag ∧ (dspTaken s).biu.voidCount = s.biu.voidCount ∧
    (dspTaken s).biu.quiet = s.biu.quiet ∧ (dspTaken s).biu.stuck = s.biu.stuck ∧ (dspTaken s).biu.broken =
    s.biu.broken ∧ (dspTaken s).cmd.owner = s.cmd.owner ∧ (dspTaken s).cmd.acked = s.cmd.acked := by
  unfold dspTaken
  dsimp only
  (repeat' split) <;> simp

@[simp] theorem dspUntaken_keeps (s : State) :
    (dspUntaken s).cas = s.cas ∧ (dspUntaken s).ntg = s.ntg ∧ (dspUntaken s).drw = s.drw ∧ (dspUntaken s).ink = s.ink
    ∧ (dspUntaken s).pkt = s.pkt ∧ (dspUntaken s).alm = s.alm ∧ (dspUntaken s).lsv = s.lsv ∧ (dspUntaken s).lines =
    s.lines ∧ (dspUntaken s).outputs = s.outputs ∧ (dspUntaken s).pending = s.pending ∧ (dspUntaken s).pt.view =
    s.pt.view ∧ (dspUntaken s).pt.listenIn = s.pt.listenIn ∧ (dspUntaken s).pt.wallLimit = s.pt.wallLimit ∧
    (dspUntaken s).pt.quietEnded = s.pt.quietEnded ∧ (dspUntaken s).pt.stuckSeen = s.pt.stuckSeen ∧ (dspUntaken
    s).pt.statusTimer = s.pt.statusTimer ∧ (dspUntaken s).biu.slow = s.biu.slow ∧ (dspUntaken s).biu.attempt =
    s.biu.attempt ∧ (dspUntaken s).biu.lastOutcome = s.biu.lastOutcome ∧ (dspUntaken s).biu.alarmFlag =
    s.biu.alarmFlag ∧ (dspUntaken s).biu.statusFlag = s.biu.statusFlag ∧ (dspUntaken s).biu.voidCount =
    s.biu.voidCount ∧ (dspUntaken s).biu.quiet = s.biu.quiet ∧ (dspUntaken s).biu.stuck = s.biu.stuck ∧ (dspUntaken
    s).biu.broken = s.biu.broken ∧ (dspUntaken s).cmd.owner = s.cmd.owner ∧ (dspUntaken s).cmd.acked = s.cmd.acked := by
  simp [dspUntaken]

@[simp] theorem dspRetracted_keeps (s : State) :
    (dspRetracted s).cas = s.cas ∧ (dspRetracted s).ntg = s.ntg ∧ (dspRetracted s).drw = s.drw ∧ (dspRetracted s).ink
    = s.ink ∧ (dspRetracted s).pkt = s.pkt ∧ (dspRetracted s).alm = s.alm ∧ (dspRetracted s).lsv = s.lsv ∧
    (dspRetracted s).lines = s.lines ∧ (dspRetracted s).outputs = s.outputs ∧ (dspRetracted s).pending = s.pending ∧
    (dspRetracted s).pt.view = s.pt.view ∧ (dspRetracted s).pt.listenIn = s.pt.listenIn ∧ (dspRetracted
    s).pt.wallLimit = s.pt.wallLimit ∧ (dspRetracted s).pt.quietEnded = s.pt.quietEnded ∧ (dspRetracted
    s).pt.stuckSeen = s.pt.stuckSeen ∧ (dspRetracted s).pt.statusTimer = s.pt.statusTimer ∧ (dspRetracted s).biu.slow
    = s.biu.slow ∧ (dspRetracted s).biu.attempt = s.biu.attempt ∧ (dspRetracted s).biu.lastOutcome = s.biu.lastOutcome
    ∧ (dspRetracted s).biu.alarmFlag = s.biu.alarmFlag ∧ (dspRetracted s).biu.statusFlag = s.biu.statusFlag ∧
    (dspRetracted s).biu.voidCount = s.biu.voidCount ∧ (dspRetracted s).biu.quiet = s.biu.quiet ∧ (dspRetracted
    s).biu.stuck = s.biu.stuck ∧ (dspRetracted s).biu.broken = s.biu.broken ∧ (dspRetracted s).cmd.owner = s.cmd.owner
    ∧ (dspRetracted s).cmd.acked = s.cmd.acked := by
  unfold dspRetracted
  dsimp only
  (repeat' split) <;> simp

@[simp] theorem dspSweepFailed_keeps (s : State) :
    (dspSweepFailed s).cas = s.cas ∧ (dspSweepFailed s).ntg = s.ntg ∧ (dspSweepFailed s).drw = s.drw ∧ (dspSweepFailed
    s).ink = s.ink ∧ (dspSweepFailed s).pkt = s.pkt ∧ (dspSweepFailed s).alm = s.alm ∧ (dspSweepFailed s).lsv = s.lsv
    ∧ (dspSweepFailed s).lines = s.lines ∧ (dspSweepFailed s).outputs = s.outputs ∧ (dspSweepFailed s).pending =
    s.pending ∧ (dspSweepFailed s).pt.view = s.pt.view ∧ (dspSweepFailed s).pt.listenIn = s.pt.listenIn ∧
    (dspSweepFailed s).pt.wallLimit = s.pt.wallLimit ∧ (dspSweepFailed s).pt.quietEnded = s.pt.quietEnded ∧
    (dspSweepFailed s).pt.stuckSeen = s.pt.stuckSeen ∧ (dspSweepFailed s).pt.statusTimer = s.pt.statusTimer ∧
    (dspSweepFailed s).biu.slow = s.biu.slow ∧ (dspSweepFailed s).biu.attempt = s.biu.attempt ∧ (dspSweepFailed
    s).biu.lastOutcome = s.biu.lastOutcome ∧ (dspSweepFailed s).biu.alarmFlag = s.biu.alarmFlag ∧ (dspSweepFailed
    s).biu.statusFlag = s.biu.statusFlag ∧ (dspSweepFailed s).biu.voidCount = s.biu.voidCount ∧ (dspSweepFailed
    s).biu.quiet = s.biu.quiet ∧ (dspSweepFailed s).biu.stuck = s.biu.stuck ∧ (dspSweepFailed s).biu.broken =
    s.biu.broken ∧ (dspSweepFailed s).cmd.owner = s.cmd.owner ∧ (dspSweepFailed s).cmd.acked = s.cmd.acked := by
  simp only [dspSweepFailed]; (repeat' split) <;> simp

@[simp] theorem dspDrawerJammed_keeps (s : State) :
    (dspDrawerJammed s).cas = s.cas ∧ (dspDrawerJammed s).ntg = s.ntg ∧ (dspDrawerJammed s).drw = s.drw ∧
    (dspDrawerJammed s).ink = s.ink ∧ (dspDrawerJammed s).pkt = s.pkt ∧ (dspDrawerJammed s).alm = s.alm ∧
    (dspDrawerJammed s).lsv = s.lsv ∧ (dspDrawerJammed s).lines = s.lines ∧ (dspDrawerJammed s).outputs = s.outputs ∧
    (dspDrawerJammed s).pending = s.pending ∧ (dspDrawerJammed s).pt.view = s.pt.view ∧ (dspDrawerJammed
    s).pt.listenIn = s.pt.listenIn ∧ (dspDrawerJammed s).pt.wallLimit = s.pt.wallLimit ∧ (dspDrawerJammed
    s).pt.quietEnded = s.pt.quietEnded ∧ (dspDrawerJammed s).pt.stuckSeen = s.pt.stuckSeen ∧ (dspDrawerJammed
    s).pt.statusTimer = s.pt.statusTimer ∧ (dspDrawerJammed s).biu.slow = s.biu.slow ∧ (dspDrawerJammed s).biu.attempt
    = s.biu.attempt ∧ (dspDrawerJammed s).biu.lastOutcome = s.biu.lastOutcome ∧ (dspDrawerJammed s).biu.alarmFlag =
    s.biu.alarmFlag ∧ (dspDrawerJammed s).biu.statusFlag = s.biu.statusFlag ∧ (dspDrawerJammed s).biu.voidCount =
    s.biu.voidCount ∧ (dspDrawerJammed s).biu.quiet = s.biu.quiet ∧ (dspDrawerJammed s).biu.stuck = s.biu.stuck ∧
    (dspDrawerJammed s).biu.broken = s.biu.broken ∧ (dspDrawerJammed s).cmd.owner = s.cmd.owner ∧ (dspDrawerJammed
    s).cmd.acked = s.cmd.acked := by
  simp only [dspDrawerJammed]; (repeat' split) <;> simp

@[simp] theorem dspCancel_keeps (s : State) :
    (dspCancel s).1.cas = s.cas ∧ (dspCancel s).1.ink = s.ink ∧ (dspCancel s).1.pkt = s.pkt ∧ (dspCancel s).1.alm =
    s.alm ∧ (dspCancel s).1.lsv = s.lsv ∧ (dspCancel s).1.lines = s.lines ∧ (dspCancel s).1.outputs = s.outputs ∧
    (dspCancel s).1.pending = s.pending ∧ (dspCancel s).1.pt.view = s.pt.view ∧ (dspCancel s).1.pt.listenIn =
    s.pt.listenIn ∧ (dspCancel s).1.pt.wallLimit = s.pt.wallLimit ∧ (dspCancel s).1.pt.quietEnded = s.pt.quietEnded ∧
    (dspCancel s).1.pt.stuckSeen = s.pt.stuckSeen ∧ (dspCancel s).1.pt.statusTimer = s.pt.statusTimer ∧ (dspCancel
    s).1.biu.slow = s.biu.slow ∧ (dspCancel s).1.biu.attempt = s.biu.attempt ∧ (dspCancel s).1.biu.lastOutcome =
    s.biu.lastOutcome ∧ (dspCancel s).1.biu.alarmFlag = s.biu.alarmFlag ∧ (dspCancel s).1.biu.statusFlag =
    s.biu.statusFlag ∧ (dspCancel s).1.biu.voidCount = s.biu.voidCount ∧ (dspCancel s).1.biu.quiet = s.biu.quiet ∧
    (dspCancel s).1.biu.stuck = s.biu.stuck ∧ (dspCancel s).1.biu.broken = s.biu.broken ∧ (dspCancel s).1.cmd.owner =
    s.cmd.owner ∧ (dspCancel s).1.cmd.acked = s.cmd.acked := by
  unfold dspCancel
  dsimp only
  (repeat' split) <;> simp

@[simp] theorem dspLockdown_keeps (s : State) :
    (dspLockdown s).cas = s.cas ∧ (dspLockdown s).ink = s.ink ∧ (dspLockdown s).pkt = s.pkt ∧ (dspLockdown s).alm =
    s.alm ∧ (dspLockdown s).lsv = s.lsv ∧ (dspLockdown s).lines = s.lines ∧ (dspLockdown s).outputs = s.outputs ∧
    (dspLockdown s).pending = s.pending ∧ (dspLockdown s).pt.view = s.pt.view ∧ (dspLockdown s).pt.listenIn =
    s.pt.listenIn ∧ (dspLockdown s).pt.wallLimit = s.pt.wallLimit ∧ (dspLockdown s).pt.quietEnded = s.pt.quietEnded ∧
    (dspLockdown s).pt.stuckSeen = s.pt.stuckSeen ∧ (dspLockdown s).pt.statusTimer = s.pt.statusTimer ∧ (dspLockdown
    s).biu.slow = s.biu.slow ∧ (dspLockdown s).biu.attempt = s.biu.attempt ∧ (dspLockdown s).biu.lastOutcome =
    s.biu.lastOutcome ∧ (dspLockdown s).biu.alarmFlag = s.biu.alarmFlag ∧ (dspLockdown s).biu.statusFlag =
    s.biu.statusFlag ∧ (dspLockdown s).biu.voidCount = s.biu.voidCount ∧ (dspLockdown s).biu.quiet = s.biu.quiet ∧
    (dspLockdown s).biu.stuck = s.biu.stuck ∧ (dspLockdown s).biu.broken = s.biu.broken ∧ (dspLockdown s).cmd.owner =
    s.cmd.owner ∧ (dspLockdown s).cmd.acked = s.cmd.acked := by
  unfold dspLockdown
  dsimp only
  (repeat' split) <;> simp

@[simp] theorem dspRestart_keeps (s : State) :
    (dspRestart s).cas = s.cas ∧ (dspRestart s).ntg = s.ntg ∧ (dspRestart s).ink = s.ink ∧ (dspRestart s).pkt = s.pkt
    ∧ (dspRestart s).alm = s.alm ∧ (dspRestart s).lsv = s.lsv ∧ (dspRestart s).lines = s.lines ∧ (dspRestart
    s).outputs = s.outputs ∧ (dspRestart s).pending = s.pending ∧ (dspRestart s).pt.view = s.pt.view ∧ (dspRestart
    s).pt.listenIn = s.pt.listenIn ∧ (dspRestart s).pt.wallLimit = s.pt.wallLimit ∧ (dspRestart s).pt.quietEnded =
    s.pt.quietEnded ∧ (dspRestart s).pt.stuckSeen = s.pt.stuckSeen ∧ (dspRestart s).pt.statusTimer = s.pt.statusTimer
    ∧ (dspRestart s).biu.slow = s.biu.slow ∧ (dspRestart s).biu.attempt = s.biu.attempt ∧ (dspRestart
    s).biu.lastOutcome = s.biu.lastOutcome ∧ (dspRestart s).biu.alarmFlag = s.biu.alarmFlag ∧ (dspRestart
    s).biu.statusFlag = s.biu.statusFlag ∧ (dspRestart s).biu.voidCount = s.biu.voidCount ∧ (dspRestart s).biu.quiet =
    s.biu.quiet ∧ (dspRestart s).biu.stuck = s.biu.stuck ∧ (dspRestart s).biu.broken = s.biu.broken ∧ (dspRestart
    s).cmd.owner = s.cmd.owner ∧ (dspRestart s).cmd.acked = s.cmd.acked := by
  simp only [dspRestart]; (repeat' split) <;> simp

@[simp] theorem dspPurgeBegins_keeps (s : State) :
    (dspPurgeBegins s).cas = s.cas ∧ (dspPurgeBegins s).ntg = s.ntg ∧ (dspPurgeBegins s).drw = s.drw ∧ (dspPurgeBegins
    s).ink = s.ink ∧ (dspPurgeBegins s).pkt = s.pkt ∧ (dspPurgeBegins s).pt = s.pt ∧ (dspPurgeBegins s).alm = s.alm ∧
    (dspPurgeBegins s).biu = s.biu ∧ (dspPurgeBegins s).cmd = s.cmd ∧ (dspPurgeBegins s).lsv = s.lsv ∧ (dspPurgeBegins
    s).lines = s.lines ∧ (dspPurgeBegins s).outputs = s.outputs ∧ (dspPurgeBegins s).pending = s.pending := by
  simp [dspPurgeBegins]

@[simp] theorem consumeSeq_keeps (s : State) :
    (consumeSeq s).cas = s.cas ∧ (consumeSeq s).ntg = s.ntg ∧ (consumeSeq s).dsp = s.dsp ∧ (consumeSeq s).drw = s.drw
    ∧ (consumeSeq s).pkt = s.pkt ∧ (consumeSeq s).pt = s.pt ∧ (consumeSeq s).alm = s.alm ∧ (consumeSeq s).biu = s.biu
    ∧ (consumeSeq s).cmd = s.cmd ∧ (consumeSeq s).lsv = s.lsv ∧ (consumeSeq s).lines = s.lines ∧ (consumeSeq
    s).outputs = s.outputs ∧ (consumeSeq s).pending = s.pending ∧ (consumeSeq s).ink.state = s.ink.state ∧ (consumeSeq
    s).ink.record = s.ink.record ∧ (consumeSeq s).ink.raster = s.ink.raster ∧ (consumeSeq s).ink.fieldPage =
    s.ink.fieldPage ∧ (consumeSeq s).ink.fieldCol = s.ink.fieldCol ∧ (consumeSeq s).ink.energy = s.ink.energy ∧
    (consumeSeq s).ink.mirror = s.ink.mirror ∧ (consumeSeq s).ink.sensor = s.ink.sensor ∧ (consumeSeq
    s).ink.sinceClear = s.ink.sinceClear ∧ (consumeSeq s).ink.coveredInRun = s.ink.coveredInRun := by
  simp [consumeSeq]

@[simp] theorem inkJam_keeps (cause : InkJam) (s : State) :
    (inkJam cause s).cas = s.cas ∧ (inkJam cause s).drw = s.drw ∧ (inkJam cause s).pkt = s.pkt ∧ (inkJam cause s).alm
    = s.alm ∧ (inkJam cause s).lines = s.lines ∧ (inkJam cause s).outputs = s.outputs ∧ (inkJam cause s).pending =
    s.pending ∧ (inkJam cause s).pt.view = s.pt.view ∧ (inkJam cause s).pt.listenIn = s.pt.listenIn ∧ (inkJam cause
    s).pt.wallLimit = s.pt.wallLimit ∧ (inkJam cause s).pt.quietEnded = s.pt.quietEnded ∧ (inkJam cause
    s).pt.stuckSeen = s.pt.stuckSeen ∧ (inkJam cause s).pt.statusTimer = s.pt.statusTimer ∧ (inkJam cause s).biu.slow
    = s.biu.slow ∧ (inkJam cause s).biu.attempt = s.biu.attempt ∧ (inkJam cause s).biu.lastOutcome = s.biu.lastOutcome
    ∧ (inkJam cause s).biu.alarmFlag = s.biu.alarmFlag ∧ (inkJam cause s).biu.statusFlag = s.biu.statusFlag ∧ (inkJam
    cause s).biu.voidCount = s.biu.voidCount ∧ (inkJam cause s).biu.quiet = s.biu.quiet ∧ (inkJam cause s).biu.stuck =
    s.biu.stuck ∧ (inkJam cause s).biu.broken = s.biu.broken ∧ (inkJam cause s).cmd.owner = s.cmd.owner ∧ (inkJam
    cause s).cmd.acked = s.cmd.acked ∧ (inkJam cause s).lsv.station = s.lsv.station ∧ (inkJam cause s).lsv.stage =
    s.lsv.stage ∧ (inkJam cause s).lsv.transportDone = s.lsv.transportDone ∧ (inkJam cause s).lsv.gotLane =
    s.lsv.gotLane ∧ (inkJam cause s).lsv.gotBins = s.lsv.gotBins ∧ (inkJam cause s).lsv.serviceTimer =
    s.lsv.serviceTimer ∧ (inkJam cause s).lsv.heldRestarts = s.lsv.heldRestarts := by
  unfold inkJam
  dsimp only
  (repeat' split) <;> simp

@[simp] theorem inkStart_keeps (s : State) :
    (inkStart s).cas = s.cas ∧ (inkStart s).drw = s.drw ∧ (inkStart s).pkt = s.pkt ∧ (inkStart s).alm = s.alm ∧
    (inkStart s).lines = s.lines ∧ (inkStart s).outputs = s.outputs ∧ (inkStart s).pending = s.pending ∧ (inkStart
    s).pt.view = s.pt.view ∧ (inkStart s).pt.listenIn = s.pt.listenIn ∧ (inkStart s).pt.wallLimit = s.pt.wallLimit ∧
    (inkStart s).pt.quietEnded = s.pt.quietEnded ∧ (inkStart s).pt.stuckSeen = s.pt.stuckSeen ∧ (inkStart
    s).pt.statusTimer = s.pt.statusTimer ∧ (inkStart s).biu.slow = s.biu.slow ∧ (inkStart s).biu.attempt =
    s.biu.attempt ∧ (inkStart s).biu.lastOutcome = s.biu.lastOutcome ∧ (inkStart s).biu.alarmFlag = s.biu.alarmFlag ∧
    (inkStart s).biu.statusFlag = s.biu.statusFlag ∧ (inkStart s).biu.voidCount = s.biu.voidCount ∧ (inkStart
    s).biu.quiet = s.biu.quiet ∧ (inkStart s).biu.stuck = s.biu.stuck ∧ (inkStart s).biu.broken = s.biu.broken ∧
    (inkStart s).cmd.owner = s.cmd.owner ∧ (inkStart s).cmd.acked = s.cmd.acked ∧ (inkStart s).lsv.station =
    s.lsv.station ∧ (inkStart s).lsv.stage = s.lsv.stage ∧ (inkStart s).lsv.transportDone = s.lsv.transportDone ∧
    (inkStart s).lsv.gotLane = s.lsv.gotLane ∧ (inkStart s).lsv.gotBins = s.lsv.gotBins ∧ (inkStart
    s).lsv.serviceTimer = s.lsv.serviceTimer ∧ (inkStart s).lsv.heldRestarts = s.lsv.heldRestarts := by
  unfold inkStart
  dsimp only
  (repeat' split) <;> simp

@[simp] theorem inkHand_keeps (s : State) :
    (inkHand s).cas = s.cas ∧ (inkHand s).drw = s.drw ∧ (inkHand s).pkt = s.pkt ∧ (inkHand s).alm = s.alm ∧ (inkHand
    s).lines = s.lines ∧ (inkHand s).outputs = s.outputs ∧ (inkHand s).pending = s.pending ∧ (inkHand s).pt.view =
    s.pt.view ∧ (inkHand s).pt.listenIn = s.pt.listenIn ∧ (inkHand s).pt.wallLimit = s.pt.wallLimit ∧ (inkHand
    s).pt.quietEnded = s.pt.quietEnded ∧ (inkHand s).pt.stuckSeen = s.pt.stuckSeen ∧ (inkHand s).pt.statusTimer =
    s.pt.statusTimer ∧ (inkHand s).biu.slow = s.biu.slow ∧ (inkHand s).biu.attempt = s.biu.attempt ∧ (inkHand
    s).biu.lastOutcome = s.biu.lastOutcome ∧ (inkHand s).biu.alarmFlag = s.biu.alarmFlag ∧ (inkHand s).biu.statusFlag
    = s.biu.statusFlag ∧ (inkHand s).biu.voidCount = s.biu.voidCount ∧ (inkHand s).biu.quiet = s.biu.quiet ∧ (inkHand
    s).biu.stuck = s.biu.stuck ∧ (inkHand s).biu.broken = s.biu.broken ∧ (inkHand s).cmd.owner = s.cmd.owner ∧
    (inkHand s).cmd.acked = s.cmd.acked ∧ (inkHand s).lsv.station = s.lsv.station ∧ (inkHand s).lsv.stage =
    s.lsv.stage ∧ (inkHand s).lsv.transportDone = s.lsv.transportDone ∧ (inkHand s).lsv.gotLane = s.lsv.gotLane ∧
    (inkHand s).lsv.gotBins = s.lsv.gotBins ∧ (inkHand s).lsv.serviceTimer = s.lsv.serviceTimer ∧ (inkHand
    s).lsv.heldRestarts = s.lsv.heldRestarts := by
  unfold inkHand
  dsimp only
  (repeat' split) <;> simp

@[simp] theorem settleInk_keeps (s : State) :
    (settleInk s).cas = s.cas ∧ (settleInk s).drw = s.drw ∧ (settleInk s).pkt = s.pkt ∧ (settleInk s).alm = s.alm ∧
    (settleInk s).lines = s.lines ∧ (settleInk s).outputs = s.outputs ∧ (settleInk s).pending = s.pending ∧ (settleInk
    s).pt.view = s.pt.view ∧ (settleInk s).pt.listenIn = s.pt.listenIn ∧ (settleInk s).pt.wallLimit = s.pt.wallLimit ∧
    (settleInk s).pt.quietEnded = s.pt.quietEnded ∧ (settleInk s).pt.stuckSeen = s.pt.stuckSeen ∧ (settleInk
    s).pt.statusTimer = s.pt.statusTimer ∧ (settleInk s).biu.slow = s.biu.slow ∧ (settleInk s).biu.attempt =
    s.biu.attempt ∧ (settleInk s).biu.lastOutcome = s.biu.lastOutcome ∧ (settleInk s).biu.alarmFlag = s.biu.alarmFlag
    ∧ (settleInk s).biu.statusFlag = s.biu.statusFlag ∧ (settleInk s).biu.voidCount = s.biu.voidCount ∧ (settleInk
    s).biu.quiet = s.biu.quiet ∧ (settleInk s).biu.stuck = s.biu.stuck ∧ (settleInk s).biu.broken = s.biu.broken ∧
    (settleInk s).cmd.owner = s.cmd.owner ∧ (settleInk s).cmd.acked = s.cmd.acked ∧ (settleInk s).lsv.station =
    s.lsv.station ∧ (settleInk s).lsv.stage = s.lsv.stage ∧ (settleInk s).lsv.transportDone = s.lsv.transportDone ∧
    (settleInk s).lsv.gotLane = s.lsv.gotLane ∧ (settleInk s).lsv.gotBins = s.lsv.gotBins ∧ (settleInk
    s).lsv.serviceTimer = s.lsv.serviceTimer ∧ (settleInk s).lsv.heldRestarts = s.lsv.heldRestarts := by
  unfold settleInk
  dsimp only
  (repeat' split) <;> simp

@[simp] theorem joinPocket_keeps (e : EnvRec) (s : State) :
    (joinPocket e s).cas = s.cas ∧ (joinPocket e s).ntg = s.ntg ∧ (joinPocket e s).dsp = s.dsp ∧ (joinPocket e s).drw
    = s.drw ∧ (joinPocket e s).ink = s.ink ∧ (joinPocket e s).pt = s.pt ∧ (joinPocket e s).alm = s.alm ∧ (joinPocket e
    s).lsv = s.lsv ∧ (joinPocket e s).lines = s.lines ∧ (joinPocket e s).outputs = s.outputs ∧ (joinPocket e
    s).pending = s.pending ∧ (joinPocket e s).pkt.chute = s.pkt.chute ∧ (joinPocket e s).pkt.gate = s.pkt.gate ∧
    (joinPocket e s).pkt.fairness = s.pkt.fairness ∧ (joinPocket e s).pkt.capacity = s.pkt.capacity ∧ (joinPocket e
    s).biu.slow = s.biu.slow ∧ (joinPocket e s).biu.attempt = s.biu.attempt ∧ (joinPocket e s).biu.lastOutcome =
    s.biu.lastOutcome ∧ (joinPocket e s).biu.alarmFlag = s.biu.alarmFlag ∧ (joinPocket e s).biu.wallQueue =
    s.biu.wallQueue ∧ (joinPocket e s).biu.statusFlag = s.biu.statusFlag ∧ (joinPocket e s).biu.voidCount =
    s.biu.voidCount ∧ (joinPocket e s).biu.quiet = s.biu.quiet ∧ (joinPocket e s).biu.stuck = s.biu.stuck ∧
    (joinPocket e s).biu.broken = s.biu.broken ∧ (joinPocket e s).cmd.owner = s.cmd.owner ∧ (joinPocket e s).cmd.acked
    = s.cmd.acked := by
  simp [joinPocket]

@[simp] theorem leavePocket_keeps (outcome : OutOutcome) (s : State) :
    (leavePocket outcome s).cas = s.cas ∧ (leavePocket outcome s).ntg = s.ntg ∧ (leavePocket outcome s).dsp = s.dsp ∧
    (leavePocket outcome s).drw = s.drw ∧ (leavePocket outcome s).ink = s.ink ∧ (leavePocket outcome s).pt = s.pt ∧
    (leavePocket outcome s).alm = s.alm ∧ (leavePocket outcome s).lsv = s.lsv ∧ (leavePocket outcome s).lines =
    s.lines ∧ (leavePocket outcome s).outputs = s.outputs ∧ (leavePocket outcome s).pending = s.pending ∧ (leavePocket
    outcome s).pkt.chute = s.pkt.chute ∧ (leavePocket outcome s).pkt.gate = s.pkt.gate ∧ (leavePocket outcome
    s).pkt.fairness = s.pkt.fairness ∧ (leavePocket outcome s).pkt.capacity = s.pkt.capacity ∧ (leavePocket outcome
    s).biu.slow = s.biu.slow ∧ (leavePocket outcome s).biu.attempt = s.biu.attempt ∧ (leavePocket outcome
    s).biu.lastOutcome = s.biu.lastOutcome ∧ (leavePocket outcome s).biu.alarmFlag = s.biu.alarmFlag ∧ (leavePocket
    outcome s).biu.wallQueue = s.biu.wallQueue ∧ (leavePocket outcome s).biu.statusFlag = s.biu.statusFlag ∧
    (leavePocket outcome s).biu.voidCount = s.biu.voidCount ∧ (leavePocket outcome s).biu.quiet = s.biu.quiet ∧
    (leavePocket outcome s).biu.stuck = s.biu.stuck ∧ (leavePocket outcome s).biu.broken = s.biu.broken ∧ (leavePocket
    outcome s).cmd.owner = s.cmd.owner ∧ (leavePocket outcome s).cmd.acked = s.cmd.acked := by
  unfold leavePocket
  dsimp only
  (repeat' split) <;> simp

@[simp] theorem pktReturned_keeps (outcome : OutOutcome) (s : State) :
    (pktReturned outcome s).cas = s.cas ∧ (pktReturned outcome s).ntg = s.ntg ∧ (pktReturned outcome s).dsp = s.dsp ∧
    (pktReturned outcome s).drw = s.drw ∧ (pktReturned outcome s).ink = s.ink ∧ (pktReturned outcome s).pt = s.pt ∧
    (pktReturned outcome s).alm = s.alm ∧ (pktReturned outcome s).lsv = s.lsv ∧ (pktReturned outcome s).lines =
    s.lines ∧ (pktReturned outcome s).outputs = s.outputs ∧ (pktReturned outcome s).pending = s.pending ∧ (pktReturned
    outcome s).pkt.chute = s.pkt.chute ∧ (pktReturned outcome s).pkt.gate = s.pkt.gate ∧ (pktReturned outcome
    s).pkt.fairness = s.pkt.fairness ∧ (pktReturned outcome s).pkt.capacity = s.pkt.capacity ∧ (pktReturned outcome
    s).biu.slow = s.biu.slow ∧ (pktReturned outcome s).biu.attempt = s.biu.attempt ∧ (pktReturned outcome
    s).biu.lastOutcome = s.biu.lastOutcome ∧ (pktReturned outcome s).biu.alarmFlag = s.biu.alarmFlag ∧ (pktReturned
    outcome s).biu.wallQueue = s.biu.wallQueue ∧ (pktReturned outcome s).biu.statusFlag = s.biu.statusFlag ∧
    (pktReturned outcome s).biu.voidCount = s.biu.voidCount ∧ (pktReturned outcome s).biu.quiet = s.biu.quiet ∧
    (pktReturned outcome s).biu.stuck = s.biu.stuck ∧ (pktReturned outcome s).biu.broken = s.biu.broken ∧ (pktReturned
    outcome s).cmd.owner = s.cmd.owner ∧ (pktReturned outcome s).cmd.acked = s.cmd.acked := by
  simp only [pktReturned]; (repeat' split) <;> simp

@[simp] theorem pktJammed_keeps (s : State) :
    (pktJammed s).cas = s.cas ∧ (pktJammed s).ntg = s.ntg ∧ (pktJammed s).dsp = s.dsp ∧ (pktJammed s).drw = s.drw ∧
    (pktJammed s).ink = s.ink ∧ (pktJammed s).pt = s.pt ∧ (pktJammed s).alm = s.alm ∧ (pktJammed s).lsv = s.lsv ∧
    (pktJammed s).lines = s.lines ∧ (pktJammed s).outputs = s.outputs ∧ (pktJammed s).pending = s.pending ∧ (pktJammed
    s).pkt.chute = s.pkt.chute ∧ (pktJammed s).pkt.gate = s.pkt.gate ∧ (pktJammed s).pkt.fairness = s.pkt.fairness ∧
    (pktJammed s).pkt.capacity = s.pkt.capacity ∧ (pktJammed s).biu.slow = s.biu.slow ∧ (pktJammed s).biu.attempt =
    s.biu.attempt ∧ (pktJammed s).biu.lastOutcome = s.biu.lastOutcome ∧ (pktJammed s).biu.alarmFlag = s.biu.alarmFlag
    ∧ (pktJammed s).biu.wallQueue = s.biu.wallQueue ∧ (pktJammed s).biu.statusFlag = s.biu.statusFlag ∧ (pktJammed
    s).biu.voidCount = s.biu.voidCount ∧ (pktJammed s).biu.quiet = s.biu.quiet ∧ (pktJammed s).biu.stuck = s.biu.stuck
    ∧ (pktJammed s).biu.broken = s.biu.broken ∧ (pktJammed s).cmd.owner = s.cmd.owner ∧ (pktJammed s).cmd.acked =
    s.cmd.acked := by
  unfold pktJammed
  dsimp only
  (repeat' split) <;> simp

@[simp] theorem recoverOne_keeps (s : State) :
    (recoverOne s).cas = s.cas ∧ (recoverOne s).ntg = s.ntg ∧ (recoverOne s).dsp = s.dsp ∧ (recoverOne s).drw = s.drw
    ∧ (recoverOne s).pt = s.pt ∧ (recoverOne s).alm = s.alm ∧ (recoverOne s).lsv = s.lsv ∧ (recoverOne s).lines =
    s.lines ∧ (recoverOne s).outputs = s.outputs ∧ (recoverOne s).pending = s.pending ∧ (recoverOne s).ink.state =
    s.ink.state ∧ (recoverOne s).ink.record = s.ink.record ∧ (recoverOne s).ink.raster = s.ink.raster ∧ (recoverOne
    s).ink.fieldPage = s.ink.fieldPage ∧ (recoverOne s).ink.fieldCol = s.ink.fieldCol ∧ (recoverOne s).ink.energy =
    s.ink.energy ∧ (recoverOne s).ink.mirror = s.ink.mirror ∧ (recoverOne s).ink.sensor = s.ink.sensor ∧ (recoverOne
    s).ink.sinceClear = s.ink.sinceClear ∧ (recoverOne s).ink.coveredInRun = s.ink.coveredInRun ∧ (recoverOne
    s).pkt.chute = s.pkt.chute ∧ (recoverOne s).pkt.gate = s.pkt.gate ∧ (recoverOne s).pkt.fairness = s.pkt.fairness ∧
    (recoverOne s).pkt.capacity = s.pkt.capacity ∧ (recoverOne s).biu.slow = s.biu.slow ∧ (recoverOne s).biu.attempt =
    s.biu.attempt ∧ (recoverOne s).biu.lastOutcome = s.biu.lastOutcome ∧ (recoverOne s).biu.alarmFlag =
    s.biu.alarmFlag ∧ (recoverOne s).biu.wallQueue = s.biu.wallQueue ∧ (recoverOne s).biu.statusFlag =
    s.biu.statusFlag ∧ (recoverOne s).biu.voidCount = s.biu.voidCount ∧ (recoverOne s).biu.quiet = s.biu.quiet ∧
    (recoverOne s).biu.stuck = s.biu.stuck ∧ (recoverOne s).biu.broken = s.biu.broken ∧ (recoverOne s).cmd.owner =
    s.cmd.owner ∧ (recoverOne s).cmd.acked = s.cmd.acked := by
  simp [recoverOne]

/-- What one step of a repetition keeps, the repetition keeps. -/
theorem repeat_keeps {α : Type} (f : State → State) (g : State → α) (h : ∀ s, g (f s) = g s) (n : Nat) (s : State) :
    g (Nat.repeat f n s) = g s := by
  induction n with
  | zero => rfl
  | succ n ih => exact (h _).trans ih

@[simp] theorem survey_keeps (s : State) :
    (survey s).cas = s.cas ∧ (survey s).ntg = s.ntg ∧ (survey s).dsp = s.dsp ∧ (survey s).drw = s.drw ∧ (survey s).pt
    = s.pt ∧ (survey s).alm = s.alm ∧ (survey s).lsv = s.lsv ∧ (survey s).lines = s.lines ∧ (survey s).outputs =
    s.outputs ∧ (survey s).pending = s.pending ∧ (survey s).ink.state = s.ink.state ∧ (survey s).ink.record =
    s.ink.record ∧ (survey s).ink.raster = s.ink.raster ∧ (survey s).ink.fieldPage = s.ink.fieldPage ∧ (survey
    s).ink.fieldCol = s.ink.fieldCol ∧ (survey s).ink.energy = s.ink.energy ∧ (survey s).ink.mirror = s.ink.mirror ∧
    (survey s).ink.sensor = s.ink.sensor ∧ (survey s).ink.sinceClear = s.ink.sinceClear ∧ (survey s).ink.coveredInRun
    = s.ink.coveredInRun ∧ (survey s).pkt.chute = s.pkt.chute ∧ (survey s).pkt.gate = s.pkt.gate ∧ (survey
    s).pkt.fairness = s.pkt.fairness ∧ (survey s).pkt.capacity = s.pkt.capacity ∧ (survey s).biu.slow = s.biu.slow ∧
    (survey s).biu.attempt = s.biu.attempt ∧ (survey s).biu.lastOutcome = s.biu.lastOutcome ∧ (survey s).biu.alarmFlag
    = s.biu.alarmFlag ∧ (survey s).biu.wallQueue = s.biu.wallQueue ∧ (survey s).biu.statusFlag = s.biu.statusFlag ∧
    (survey s).biu.voidCount = s.biu.voidCount ∧ (survey s).biu.quiet = s.biu.quiet ∧ (survey s).biu.stuck =
    s.biu.stuck ∧ (survey s).biu.broken = s.biu.broken ∧ (survey s).cmd.owner = s.cmd.owner ∧ (survey s).cmd.acked =
    s.cmd.acked := by
  exact ⟨repeat_keeps recoverOne (fun s => s.cas) (fun s => by simp) _ s, repeat_keeps recoverOne (fun s => s.ntg)
  (fun s => by simp) _ s, repeat_keeps recoverOne (fun s => s.dsp) (fun s => by simp) _ s, repeat_keeps recoverOne
  (fun s => s.drw) (fun s => by simp) _ s, repeat_keeps recoverOne (fun s => s.pt) (fun s => by simp) _ s,
  repeat_keeps recoverOne (fun s => s.alm) (fun s => by simp) _ s, repeat_keeps recoverOne (fun s => s.lsv) (fun s =>
  by simp) _ s, repeat_keeps recoverOne (fun s => s.lines) (fun s => by simp) _ s, repeat_keeps recoverOne (fun s =>
  s.outputs) (fun s => by simp) _ s, repeat_keeps recoverOne (fun s => s.pending) (fun s => by simp) _ s, repeat_keeps
  recoverOne (fun s => s.ink.state) (fun s => by simp) _ s, repeat_keeps recoverOne (fun s => s.ink.record) (fun s =>
  by simp) _ s, repeat_keeps recoverOne (fun s => s.ink.raster) (fun s => by simp) _ s, repeat_keeps recoverOne (fun s
  => s.ink.fieldPage) (fun s => by simp) _ s, repeat_keeps recoverOne (fun s => s.ink.fieldCol) (fun s => by simp) _
  s, repeat_keeps recoverOne (fun s => s.ink.energy) (fun s => by simp) _ s, repeat_keeps recoverOne (fun s =>
  s.ink.mirror) (fun s => by simp) _ s, repeat_keeps recoverOne (fun s => s.ink.sensor) (fun s => by simp) _ s,
  repeat_keeps recoverOne (fun s => s.ink.sinceClear) (fun s => by simp) _ s, repeat_keeps recoverOne (fun s =>
  s.ink.coveredInRun) (fun s => by simp) _ s, repeat_keeps recoverOne (fun s => s.pkt.chute) (fun s => by simp) _ s,
  repeat_keeps recoverOne (fun s => s.pkt.gate) (fun s => by simp) _ s, repeat_keeps recoverOne (fun s =>
  s.pkt.fairness) (fun s => by simp) _ s, repeat_keeps recoverOne (fun s => s.pkt.capacity) (fun s => by simp) _ s,
  repeat_keeps recoverOne (fun s => s.biu.slow) (fun s => by simp) _ s, repeat_keeps recoverOne (fun s =>
  s.biu.attempt) (fun s => by simp) _ s, repeat_keeps recoverOne (fun s => s.biu.lastOutcome) (fun s => by simp) _ s,
  repeat_keeps recoverOne (fun s => s.biu.alarmFlag) (fun s => by simp) _ s, repeat_keeps recoverOne (fun s =>
  s.biu.wallQueue) (fun s => by simp) _ s, repeat_keeps recoverOne (fun s => s.biu.statusFlag) (fun s => by simp) _ s,
  repeat_keeps recoverOne (fun s => s.biu.voidCount) (fun s => by simp) _ s, repeat_keeps recoverOne (fun s =>
  s.biu.quiet) (fun s => by simp) _ s, repeat_keeps recoverOne (fun s => s.biu.stuck) (fun s => by simp) _ s,
  repeat_keeps recoverOne (fun s => s.biu.broken) (fun s => by simp) _ s, repeat_keeps recoverOne (fun s =>
  s.cmd.owner) (fun s => by simp) _ s, repeat_keeps recoverOne (fun s => s.cmd.acked) (fun s => by simp) _ s⟩

@[simp] theorem settlePkt_keeps (s : State) :
    (settlePkt s).cas = s.cas ∧ (settlePkt s).ntg = s.ntg ∧ (settlePkt s).dsp = s.dsp ∧ (settlePkt s).drw = s.drw ∧
    (settlePkt s).ink = s.ink ∧ (settlePkt s).pt = s.pt ∧ (settlePkt s).alm = s.alm ∧ (settlePkt s).cmd = s.cmd ∧
    (settlePkt s).lsv = s.lsv ∧ (settlePkt s).lines = s.lines ∧ (settlePkt s).outputs = s.outputs ∧ (settlePkt
    s).pending = s.pending ∧ (settlePkt s).pkt.pocket = s.pkt.pocket ∧ (settlePkt s).pkt.gate = s.pkt.gate ∧
    (settlePkt s).pkt.fairness = s.pkt.fairness ∧ (settlePkt s).pkt.capacity = s.pkt.capacity ∧ (settlePkt s).biu.slow
    = s.biu.slow ∧ (settlePkt s).biu.attempt = s.biu.attempt ∧ (settlePkt s).biu.lastOutcome = s.biu.lastOutcome ∧
    (settlePkt s).biu.alarmFlag = s.biu.alarmFlag ∧ (settlePkt s).biu.fifo = s.biu.fifo ∧ (settlePkt s).biu.statusFlag
    = s.biu.statusFlag ∧ (settlePkt s).biu.voidCount = s.biu.voidCount ∧ (settlePkt s).biu.quiet = s.biu.quiet ∧
    (settlePkt s).biu.stuck = s.biu.stuck ∧ (settlePkt s).biu.broken = s.biu.broken := by
  unfold settlePkt
  dsimp only
  (repeat' split) <;> simp

@[simp] theorem startRelease_keeps (captured : Bool) (s : State) :
    (startRelease captured s).cas = s.cas ∧ (startRelease captured s).ntg = s.ntg ∧ (startRelease captured s).dsp =
    s.dsp ∧ (startRelease captured s).drw = s.drw ∧ (startRelease captured s).ink = s.ink ∧ (startRelease captured
    s).pt = s.pt ∧ (startRelease captured s).alm = s.alm ∧ (startRelease captured s).cmd = s.cmd ∧ (startRelease
    captured s).lsv = s.lsv ∧ (startRelease captured s).lines = s.lines ∧ (startRelease captured s).outputs =
    s.outputs ∧ (startRelease captured s).pending = s.pending ∧ (startRelease captured s).pkt.pocket = s.pkt.pocket ∧
    (startRelease captured s).pkt.gate = s.pkt.gate ∧ (startRelease captured s).pkt.fairness = s.pkt.fairness ∧
    (startRelease captured s).pkt.capacity = s.pkt.capacity ∧ (startRelease captured s).biu.slow = s.biu.slow ∧
    (startRelease captured s).biu.attempt = s.biu.attempt ∧ (startRelease captured s).biu.lastOutcome =
    s.biu.lastOutcome ∧ (startRelease captured s).biu.alarmFlag = s.biu.alarmFlag ∧ (startRelease captured s).biu.fifo
    = s.biu.fifo ∧ (startRelease captured s).biu.statusFlag = s.biu.statusFlag ∧ (startRelease captured
    s).biu.voidCount = s.biu.voidCount ∧ (startRelease captured s).biu.quiet = s.biu.quiet ∧ (startRelease captured
    s).biu.stuck = s.biu.stuck ∧ (startRelease captured s).biu.broken = s.biu.broken := by
  simp [startRelease]

@[simp] theorem recordClaim_keeps (source : Station) (s : State) :
    (recordClaim source s).cas = s.cas ∧ (recordClaim source s).ntg = s.ntg ∧ (recordClaim source s).dsp = s.dsp ∧
    (recordClaim source s).drw = s.drw ∧ (recordClaim source s).ink = s.ink ∧ (recordClaim source s).pkt = s.pkt ∧
    (recordClaim source s).alm = s.alm ∧ (recordClaim source s).biu = s.biu ∧ (recordClaim source s).cmd = s.cmd ∧
    (recordClaim source s).lsv = s.lsv ∧ (recordClaim source s).lines = s.lines ∧ (recordClaim source s).outputs =
    s.outputs ∧ (recordClaim source s).pending = s.pending ∧ (recordClaim source s).pt.view = s.pt.view ∧ (recordClaim
    source s).pt.listenIn = s.pt.listenIn ∧ (recordClaim source s).pt.wallLimit = s.pt.wallLimit ∧ (recordClaim source
    s).pt.quietEnded = s.pt.quietEnded ∧ (recordClaim source s).pt.stuckSeen = s.pt.stuckSeen ∧ (recordClaim source
    s).pt.statusTimer = s.pt.statusTimer := by
  simp only [recordClaim]; (repeat' split) <;> simp

@[simp] theorem ownClaimDone_keeps (s : State) :
    (ownClaimDone s).cas = s.cas ∧ (ownClaimDone s).ntg = s.ntg ∧ (ownClaimDone s).dsp = s.dsp ∧ (ownClaimDone s).drw
    = s.drw ∧ (ownClaimDone s).ink = s.ink ∧ (ownClaimDone s).pt = s.pt ∧ (ownClaimDone s).alm = s.alm ∧ (ownClaimDone
    s).cmd = s.cmd ∧ (ownClaimDone s).lsv = s.lsv ∧ (ownClaimDone s).lines = s.lines ∧ (ownClaimDone s).pending =
    s.pending ∧ (ownClaimDone s).pkt.fairness = s.pkt.fairness ∧ (ownClaimDone s).pkt.capacity = s.pkt.capacity ∧
    (ownClaimDone s).biu.slow = s.biu.slow ∧ (ownClaimDone s).biu.attempt = s.biu.attempt ∧ (ownClaimDone
    s).biu.lastOutcome = s.biu.lastOutcome ∧ (ownClaimDone s).biu.alarmFlag = s.biu.alarmFlag ∧ (ownClaimDone
    s).biu.fifo = s.biu.fifo ∧ (ownClaimDone s).biu.statusFlag = s.biu.statusFlag ∧ (ownClaimDone s).biu.voidCount =
    s.biu.voidCount ∧ (ownClaimDone s).biu.quiet = s.biu.quiet ∧ (ownClaimDone s).biu.stuck = s.biu.stuck ∧
    (ownClaimDone s).biu.broken = s.biu.broken := by
  unfold ownClaimDone
  dsimp only
  (repeat' split) <;> simp

@[simp] theorem endLaunch_keeps (captured : Bool) (s : State) :
    (endLaunch captured s).cas = s.cas ∧ (endLaunch captured s).ntg = s.ntg ∧ (endLaunch captured s).dsp = s.dsp ∧
    (endLaunch captured s).drw = s.drw ∧ (endLaunch captured s).ink = s.ink ∧ (endLaunch captured s).pt = s.pt ∧
    (endLaunch captured s).alm = s.alm ∧ (endLaunch captured s).lsv = s.lsv ∧ (endLaunch captured s).lines = s.lines ∧
    (endLaunch captured s).outputs = s.outputs ∧ (endLaunch captured s).pending = s.pending ∧ (endLaunch captured
    s).pkt.fairness = s.pkt.fairness ∧ (endLaunch captured s).pkt.capacity = s.pkt.capacity ∧ (endLaunch captured
    s).biu.slow = s.biu.slow ∧ (endLaunch captured s).biu.attempt = s.biu.attempt ∧ (endLaunch captured
    s).biu.lastOutcome = s.biu.lastOutcome ∧ (endLaunch captured s).biu.alarmFlag = s.biu.alarmFlag ∧ (endLaunch
    captured s).biu.statusFlag = s.biu.statusFlag ∧ (endLaunch captured s).biu.voidCount = s.biu.voidCount ∧
    (endLaunch captured s).biu.quiet = s.biu.quiet ∧ (endLaunch captured s).biu.stuck = s.biu.stuck ∧ (endLaunch
    captured s).biu.broken = s.biu.broken ∧ (endLaunch captured s).cmd.owner = s.cmd.owner ∧ (endLaunch captured
    s).cmd.acked = s.cmd.acked := by
  simp [endLaunch]

@[simp] theorem recordRelease_keeps (source : Station) (captured : Bool) (s : State) :
    (recordRelease source captured s).cas = s.cas ∧ (recordRelease source captured s).ntg = s.ntg ∧ (recordRelease
    source captured s).dsp = s.dsp ∧ (recordRelease source captured s).drw = s.drw ∧ (recordRelease source captured
    s).ink = s.ink ∧ (recordRelease source captured s).pkt = s.pkt ∧ (recordRelease source captured s).alm = s.alm ∧
    (recordRelease source captured s).biu = s.biu ∧ (recordRelease source captured s).cmd = s.cmd ∧ (recordRelease
    source captured s).lsv = s.lsv ∧ (recordRelease source captured s).lines = s.lines ∧ (recordRelease source
    captured s).outputs = s.outputs ∧ (recordRelease source captured s).pending = s.pending ∧ (recordRelease source
    captured s).pt.listenIn = s.pt.listenIn ∧ (recordRelease source captured s).pt.wallLimit = s.pt.wallLimit ∧
    (recordRelease source captured s).pt.quietEnded = s.pt.quietEnded ∧ (recordRelease source captured s).pt.stuckSeen
    = s.pt.stuckSeen ∧ (recordRelease source captured s).pt.statusTimer = s.pt.statusTimer := by
  unfold recordRelease
  dsimp only
  (repeat' split) <;> simp

@[simp] theorem ownReleaseDone_keeps (s : State) :
    (ownReleaseDone s).cas = s.cas ∧ (ownReleaseDone s).ntg = s.ntg ∧ (ownReleaseDone s).dsp = s.dsp ∧ (ownReleaseDone
    s).drw = s.drw ∧ (ownReleaseDone s).ink = s.ink ∧ (ownReleaseDone s).pt = s.pt ∧ (ownReleaseDone s).alm = s.alm ∧
    (ownReleaseDone s).biu = s.biu ∧ (ownReleaseDone s).cmd = s.cmd ∧ (ownReleaseDone s).lsv = s.lsv ∧ (ownReleaseDone
    s).lines = s.lines ∧ (ownReleaseDone s).outputs = s.outputs ∧ (ownReleaseDone s).pending = s.pending ∧
    (ownReleaseDone s).pkt.pocket = s.pkt.pocket ∧ (ownReleaseDone s).pkt.gate = s.pkt.gate ∧ (ownReleaseDone
    s).pkt.capacity = s.pkt.capacity := by
  unfold ownReleaseDone
  dsimp only
  (repeat' split) <;> simp

@[simp] theorem formWall_keeps (s : State) :
    (formWall s).cas = s.cas ∧ (formWall s).ink = s.ink ∧ (formWall s).pkt = s.pkt ∧ (formWall s).lsv = s.lsv ∧
    (formWall s).lines = s.lines ∧ (formWall s).outputs = s.outputs ∧ (formWall s).pending = s.pending ∧ (formWall
    s).pt.view = s.pt.view ∧ (formWall s).pt.listenIn = s.pt.listenIn ∧ (formWall s).pt.wallLimit = s.pt.wallLimit ∧
    (formWall s).pt.quietEnded = s.pt.quietEnded ∧ (formWall s).pt.stuckSeen = s.pt.stuckSeen ∧ (formWall
    s).pt.statusTimer = s.pt.statusTimer ∧ (formWall s).alm.loops = s.alm.loops ∧ (formWall s).alm.latch = s.alm.latch
    ∧ (formWall s).alm.serviceWindow = s.alm.serviceWindow ∧ (formWall s).alm.siren = s.alm.siren ∧ (formWall
    s).alm.sirenTimer = s.alm.sirenTimer ∧ (formWall s).alm.sirenOn = s.alm.sirenOn ∧ (formWall s).alm.sirenToggle =
    s.alm.sirenToggle ∧ (formWall s).alm.relay = s.alm.relay ∧ (formWall s).alm.latchChanged = s.alm.latchChanged ∧
    (formWall s).biu.slow = s.biu.slow ∧ (formWall s).biu.attempt = s.biu.attempt ∧ (formWall s).biu.lastOutcome =
    s.biu.lastOutcome ∧ (formWall s).biu.alarmFlag = s.biu.alarmFlag ∧ (formWall s).biu.statusFlag = s.biu.statusFlag
    ∧ (formWall s).biu.voidCount = s.biu.voidCount ∧ (formWall s).biu.quiet = s.biu.quiet ∧ (formWall s).biu.stuck =
    s.biu.stuck ∧ (formWall s).biu.broken = s.biu.broken ∧ (formWall s).cmd.owner = s.cmd.owner ∧ (formWall
    s).cmd.acked = s.cmd.acked := by
  unfold formWall
  dsimp only
  (repeat' split) <;> simp

@[simp] theorem startSiren_keeps (s : State) :
    (startSiren s).cas = s.cas ∧ (startSiren s).ntg = s.ntg ∧ (startSiren s).dsp = s.dsp ∧ (startSiren s).drw = s.drw
    ∧ (startSiren s).ink = s.ink ∧ (startSiren s).pkt = s.pkt ∧ (startSiren s).pt = s.pt ∧ (startSiren s).biu = s.biu
    ∧ (startSiren s).cmd = s.cmd ∧ (startSiren s).lsv = s.lsv ∧ (startSiren s).lines = s.lines ∧ (startSiren
    s).outputs = s.outputs ∧ (startSiren s).pending = s.pending ∧ (startSiren s).alm.loops = s.alm.loops ∧ (startSiren
    s).alm.latch = s.alm.latch ∧ (startSiren s).alm.wall = s.alm.wall ∧ (startSiren s).alm.serviceWindow =
    s.alm.serviceWindow ∧ (startSiren s).alm.relay = s.alm.relay ∧ (startSiren s).alm.latchChanged =
    s.alm.latchChanged := by
  simp [startSiren]

@[simp] theorem stopSiren_keeps (s : State) :
    (stopSiren s).cas = s.cas ∧ (stopSiren s).ntg = s.ntg ∧ (stopSiren s).dsp = s.dsp ∧ (stopSiren s).drw = s.drw ∧
    (stopSiren s).ink = s.ink ∧ (stopSiren s).pkt = s.pkt ∧ (stopSiren s).pt = s.pt ∧ (stopSiren s).biu = s.biu ∧
    (stopSiren s).cmd = s.cmd ∧ (stopSiren s).lsv = s.lsv ∧ (stopSiren s).lines = s.lines ∧ (stopSiren s).outputs =
    s.outputs ∧ (stopSiren s).pending = s.pending ∧ (stopSiren s).alm.loops = s.alm.loops ∧ (stopSiren s).alm.latch =
    s.alm.latch ∧ (stopSiren s).alm.wall = s.alm.wall ∧ (stopSiren s).alm.serviceWindow = s.alm.serviceWindow ∧
    (stopSiren s).alm.relay = s.alm.relay ∧ (stopSiren s).alm.latchChanged = s.alm.latchChanged := by
  simp [stopSiren]

@[simp] theorem latchKinds_keeps (kinds : AlarmSet) (s : State) :
    (latchKinds kinds s).cas = s.cas ∧ (latchKinds kinds s).ink = s.ink ∧ (latchKinds kinds s).pkt = s.pkt ∧
    (latchKinds kinds s).lsv = s.lsv ∧ (latchKinds kinds s).lines = s.lines ∧ (latchKinds kinds s).outputs = s.outputs
    ∧ (latchKinds kinds s).pending = s.pending ∧ (latchKinds kinds s).pt.view = s.pt.view ∧ (latchKinds kinds
    s).pt.listenIn = s.pt.listenIn ∧ (latchKinds kinds s).pt.wallLimit = s.pt.wallLimit ∧ (latchKinds kinds
    s).pt.quietEnded = s.pt.quietEnded ∧ (latchKinds kinds s).pt.stuckSeen = s.pt.stuckSeen ∧ (latchKinds kinds
    s).pt.statusTimer = s.pt.statusTimer ∧ (latchKinds kinds s).alm.loops = s.alm.loops ∧ (latchKinds kinds
    s).alm.serviceWindow = s.alm.serviceWindow ∧ (latchKinds kinds s).biu.slow = s.biu.slow ∧ (latchKinds kinds
    s).biu.attempt = s.biu.attempt ∧ (latchKinds kinds s).biu.lastOutcome = s.biu.lastOutcome ∧ (latchKinds kinds
    s).biu.statusFlag = s.biu.statusFlag ∧ (latchKinds kinds s).biu.voidCount = s.biu.voidCount ∧ (latchKinds kinds
    s).biu.quiet = s.biu.quiet ∧ (latchKinds kinds s).biu.stuck = s.biu.stuck ∧ (latchKinds kinds s).biu.broken =
    s.biu.broken ∧ (latchKinds kinds s).cmd.owner = s.cmd.owner ∧ (latchKinds kinds s).cmd.acked = s.cmd.acked := by
  unfold latchKinds
  dsimp only
  (repeat' split) <;> simp

@[simp] theorem loopLatches_keeps (loop : Slot) (s : State) :
    (loopLatches loop s).cas = s.cas ∧ (loopLatches loop s).ink = s.ink ∧ (loopLatches loop s).pkt = s.pkt ∧
    (loopLatches loop s).lsv = s.lsv ∧ (loopLatches loop s).lines = s.lines ∧ (loopLatches loop s).outputs = s.outputs
    ∧ (loopLatches loop s).pending = s.pending ∧ (loopLatches loop s).pt.view = s.pt.view ∧ (loopLatches loop
    s).pt.listenIn = s.pt.listenIn ∧ (loopLatches loop s).pt.wallLimit = s.pt.wallLimit ∧ (loopLatches loop
    s).pt.quietEnded = s.pt.quietEnded ∧ (loopLatches loop s).pt.stuckSeen = s.pt.stuckSeen ∧ (loopLatches loop
    s).pt.statusTimer = s.pt.statusTimer ∧ (loopLatches loop s).alm.loops = s.alm.loops ∧ (loopLatches loop
    s).alm.serviceWindow = s.alm.serviceWindow ∧ (loopLatches loop s).biu.slow = s.biu.slow ∧ (loopLatches loop
    s).biu.attempt = s.biu.attempt ∧ (loopLatches loop s).biu.lastOutcome = s.biu.lastOutcome ∧ (loopLatches loop
    s).biu.statusFlag = s.biu.statusFlag ∧ (loopLatches loop s).biu.voidCount = s.biu.voidCount ∧ (loopLatches loop
    s).biu.quiet = s.biu.quiet ∧ (loopLatches loop s).biu.stuck = s.biu.stuck ∧ (loopLatches loop s).biu.broken =
    s.biu.broken ∧ (loopLatches loop s).cmd.owner = s.cmd.owner ∧ (loopLatches loop s).cmd.acked = s.cmd.acked := by
  simp [loopLatches]

@[simp] theorem setEnable_keeps (loop : Slot) (enabled : Bool) (s : State) :
    (setEnable loop enabled s).cas = s.cas ∧ (setEnable loop enabled s).ink = s.ink ∧ (setEnable loop enabled s).pkt =
    s.pkt ∧ (setEnable loop enabled s).lsv = s.lsv ∧ (setEnable loop enabled s).lines = s.lines ∧ (setEnable loop
    enabled s).outputs = s.outputs ∧ (setEnable loop enabled s).pending = s.pending ∧ (setEnable loop enabled
    s).pt.view = s.pt.view ∧ (setEnable loop enabled s).pt.listenIn = s.pt.listenIn ∧ (setEnable loop enabled
    s).pt.wallLimit = s.pt.wallLimit ∧ (setEnable loop enabled s).pt.quietEnded = s.pt.quietEnded ∧ (setEnable loop
    enabled s).pt.stuckSeen = s.pt.stuckSeen ∧ (setEnable loop enabled s).pt.statusTimer = s.pt.statusTimer ∧
    (setEnable loop enabled s).alm.serviceWindow = s.alm.serviceWindow ∧ (setEnable loop enabled s).biu.slow =
    s.biu.slow ∧ (setEnable loop enabled s).biu.attempt = s.biu.attempt ∧ (setEnable loop enabled s).biu.lastOutcome =
    s.biu.lastOutcome ∧ (setEnable loop enabled s).biu.statusFlag = s.biu.statusFlag ∧ (setEnable loop enabled
    s).biu.voidCount = s.biu.voidCount ∧ (setEnable loop enabled s).biu.quiet = s.biu.quiet ∧ (setEnable loop enabled
    s).biu.stuck = s.biu.stuck ∧ (setEnable loop enabled s).biu.broken = s.biu.broken ∧ (setEnable loop enabled
    s).cmd.owner = s.cmd.owner ∧ (setEnable loop enabled s).cmd.acked = s.cmd.acked := by
  unfold setEnable
  dsimp only
  (repeat' split) <;> simp

@[simp] theorem closeServiceWindow_keeps (s : State) :
    (closeServiceWindow s).cas = s.cas ∧ (closeServiceWindow s).ink = s.ink ∧ (closeServiceWindow s).pkt = s.pkt ∧
    (closeServiceWindow s).lsv = s.lsv ∧ (closeServiceWindow s).lines = s.lines ∧ (closeServiceWindow s).outputs =
    s.outputs ∧ (closeServiceWindow s).pending = s.pending ∧ (closeServiceWindow s).pt.view = s.pt.view ∧
    (closeServiceWindow s).pt.listenIn = s.pt.listenIn ∧ (closeServiceWindow s).pt.wallLimit = s.pt.wallLimit ∧
    (closeServiceWindow s).pt.quietEnded = s.pt.quietEnded ∧ (closeServiceWindow s).pt.stuckSeen = s.pt.stuckSeen ∧
    (closeServiceWindow s).pt.statusTimer = s.pt.statusTimer ∧ (closeServiceWindow s).alm.loops = s.alm.loops ∧
    (closeServiceWindow s).biu.slow = s.biu.slow ∧ (closeServiceWindow s).biu.attempt = s.biu.attempt ∧
    (closeServiceWindow s).biu.lastOutcome = s.biu.lastOutcome ∧ (closeServiceWindow s).biu.statusFlag =
    s.biu.statusFlag ∧ (closeServiceWindow s).biu.voidCount = s.biu.voidCount ∧ (closeServiceWindow s).biu.quiet =
    s.biu.quiet ∧ (closeServiceWindow s).biu.stuck = s.biu.stuck ∧ (closeServiceWindow s).biu.broken = s.biu.broken ∧
    (closeServiceWindow s).cmd.owner = s.cmd.owner ∧ (closeServiceWindow s).cmd.acked = s.cmd.acked := by
  unfold closeServiceWindow
  dsimp only
  (repeat' split) <;> simp

@[simp] theorem alarmResetSteps_keeps (s : State) :
    (alarmResetSteps s).cas = s.cas ∧ (alarmResetSteps s).ink = s.ink ∧ (alarmResetSteps s).pkt = s.pkt ∧
    (alarmResetSteps s).lsv = s.lsv ∧ (alarmResetSteps s).lines = s.lines ∧ (alarmResetSteps s).outputs = s.outputs ∧
    (alarmResetSteps s).pending = s.pending ∧ (alarmResetSteps s).pt.view = s.pt.view ∧ (alarmResetSteps
    s).pt.listenIn = s.pt.listenIn ∧ (alarmResetSteps s).pt.wallLimit = s.pt.wallLimit ∧ (alarmResetSteps
    s).pt.quietEnded = s.pt.quietEnded ∧ (alarmResetSteps s).pt.stuckSeen = s.pt.stuckSeen ∧ (alarmResetSteps
    s).pt.statusTimer = s.pt.statusTimer ∧ (alarmResetSteps s).alm.loops = s.alm.loops ∧ (alarmResetSteps
    s).alm.serviceWindow = s.alm.serviceWindow ∧ (alarmResetSteps s).biu.slow = s.biu.slow ∧ (alarmResetSteps
    s).biu.attempt = s.biu.attempt ∧ (alarmResetSteps s).biu.lastOutcome = s.biu.lastOutcome ∧ (alarmResetSteps
    s).biu.statusFlag = s.biu.statusFlag ∧ (alarmResetSteps s).biu.voidCount = s.biu.voidCount ∧ (alarmResetSteps
    s).biu.quiet = s.biu.quiet ∧ (alarmResetSteps s).biu.stuck = s.biu.stuck ∧ (alarmResetSteps s).biu.broken =
    s.biu.broken ∧ (alarmResetSteps s).cmd.owner = s.cmd.owner ∧ (alarmResetSteps s).cmd.acked = s.cmd.acked := by
  unfold alarmResetSteps
  dsimp only
  (repeat' split) <;> simp

end Sys2Proof.Machine
end

