-- ==== Sys2Proof/Laws/SupervisorFrames.lean ====
section
/-!
SUPPORT. What the shared operations of the lane supervisor, the peer table, the bus interface and the command decoder leave alone.
-/

namespace Sys2Proof.Machine

open Sys2Proof

@[simp] theorem settle_keeps (s : State) :
    (settle s).cas = s.cas ∧ (settle s).alm = s.alm ∧ (settle s).lines = s.lines ∧ (settle s).pending = s.pending ∧
    (settle s).pkt.pocket = s.pkt.pocket ∧ (settle s).pkt.gate = s.pkt.gate ∧ (settle s).pkt.fairness = s.pkt.fairness
    ∧ (settle s).pkt.capacity = s.pkt.capacity ∧ (settle s).pt.view = s.pt.view ∧ (settle s).pt.listenIn =
    s.pt.listenIn ∧ (settle s).pt.wallLimit = s.pt.wallLimit ∧ (settle s).pt.quietEnded = s.pt.quietEnded ∧ (settle
    s).pt.stuckSeen = s.pt.stuckSeen ∧ (settle s).pt.statusTimer = s.pt.statusTimer ∧ (settle s).biu.slow = s.biu.slow
    ∧ (settle s).biu.attempt = s.biu.attempt ∧ (settle s).biu.lastOutcome = s.biu.lastOutcome ∧ (settle
    s).biu.alarmFlag = s.biu.alarmFlag ∧ (settle s).biu.statusFlag = s.biu.statusFlag ∧ (settle s).biu.voidCount =
    s.biu.voidCount ∧ (settle s).biu.quiet = s.biu.quiet ∧ (settle s).biu.stuck = s.biu.stuck ∧ (settle s).biu.broken
    = s.biu.broken ∧ (settle s).cmd.owner = s.cmd.owner ∧ (settle s).cmd.acked = s.cmd.acked ∧ (settle s).lsv.station
    = s.lsv.station ∧ (settle s).lsv.stage = s.lsv.stage ∧ (settle s).lsv.transportDone = s.lsv.transportDone ∧
    (settle s).lsv.gotLane = s.lsv.gotLane ∧ (settle s).lsv.gotBins = s.lsv.gotBins ∧ (settle s).lsv.serviceTimer =
    s.lsv.serviceTimer ∧ (settle s).lsv.heldRestarts = s.lsv.heldRestarts := by
  simp [settle]

@[simp] theorem purgeFail_keeps (s : State) :
    (purgeFail s).cas = s.cas ∧ (purgeFail s).drw = s.drw ∧ (purgeFail s).ink = s.ink ∧ (purgeFail s).pkt = s.pkt ∧
    (purgeFail s).alm = s.alm ∧ (purgeFail s).lines = s.lines ∧ (purgeFail s).outputs = s.outputs ∧ (purgeFail
    s).pending = s.pending ∧ (purgeFail s).pt.view = s.pt.view ∧ (purgeFail s).pt.listenIn = s.pt.listenIn ∧
    (purgeFail s).pt.wallLimit = s.pt.wallLimit ∧ (purgeFail s).pt.quietEnded = s.pt.quietEnded ∧ (purgeFail
    s).pt.stuckSeen = s.pt.stuckSeen ∧ (purgeFail s).pt.statusTimer = s.pt.statusTimer ∧ (purgeFail s).biu.slow =
    s.biu.slow ∧ (purgeFail s).biu.attempt = s.biu.attempt ∧ (purgeFail s).biu.lastOutcome = s.biu.lastOutcome ∧
    (purgeFail s).biu.alarmFlag = s.biu.alarmFlag ∧ (purgeFail s).biu.statusFlag = s.biu.statusFlag ∧ (purgeFail
    s).biu.voidCount = s.biu.voidCount ∧ (purgeFail s).biu.quiet = s.biu.quiet ∧ (purgeFail s).biu.stuck = s.biu.stuck
    ∧ (purgeFail s).biu.broken = s.biu.broken ∧ (purgeFail s).cmd.owner = s.cmd.owner ∧ (purgeFail s).cmd.acked =
    s.cmd.acked ∧ (purgeFail s).lsv.station = s.lsv.station ∧ (purgeFail s).lsv.stage = s.lsv.stage ∧ (purgeFail
    s).lsv.transportDone = s.lsv.transportDone ∧ (purgeFail s).lsv.gotLane = s.lsv.gotLane ∧ (purgeFail s).lsv.gotBins
    = s.lsv.gotBins ∧ (purgeFail s).lsv.serviceTimer = s.lsv.serviceTimer ∧ (purgeFail s).lsv.heldFault =
    s.lsv.heldFault ∧ (purgeFail s).lsv.heldRestarts = s.lsv.heldRestarts := by
  unfold purgeFail
  dsimp only
  (repeat' split) <;> simp

@[simp] theorem purgeCheck_keeps (s : State) :
    (purgeCheck s).cas = s.cas ∧ (purgeCheck s).ntg = s.ntg ∧ (purgeCheck s).dsp = s.dsp ∧ (purgeCheck s).drw = s.drw
    ∧ (purgeCheck s).ink = s.ink ∧ (purgeCheck s).pkt = s.pkt ∧ (purgeCheck s).alm = s.alm ∧ (purgeCheck s).biu =
    s.biu ∧ (purgeCheck s).cmd = s.cmd ∧ (purgeCheck s).lines = s.lines ∧ (purgeCheck s).outputs = s.outputs ∧
    (purgeCheck s).pending = s.pending ∧ (purgeCheck s).pt.peers = s.pt.peers ∧ (purgeCheck s).pt.view = s.pt.view ∧
    (purgeCheck s).pt.wallLimit = s.pt.wallLimit ∧ (purgeCheck s).pt.quietEnded = s.pt.quietEnded ∧ (purgeCheck
    s).pt.stuckSeen = s.pt.stuckSeen ∧ (purgeCheck s).pt.statusTimer = s.pt.statusTimer ∧ (purgeCheck s).lsv.station =
    s.lsv.station ∧ (purgeCheck s).lsv.stage = s.lsv.stage ∧ (purgeCheck s).lsv.transportDone = s.lsv.transportDone ∧
    (purgeCheck s).lsv.gotLane = s.lsv.gotLane ∧ (purgeCheck s).lsv.gotBins = s.lsv.gotBins ∧ (purgeCheck
    s).lsv.serviceTimer = s.lsv.serviceTimer ∧ (purgeCheck s).lsv.heldFault = s.lsv.heldFault ∧ (purgeCheck
    s).lsv.heldRestarts = s.lsv.heldRestarts := by
  unfold purgeCheck
  dsimp only
  (repeat' split) <;> simp

@[simp] theorem intakeClear_keeps (s : State) :
    (intakeClear s).cas = s.cas ∧ (intakeClear s).ntg = s.ntg ∧ (intakeClear s).dsp = s.dsp ∧ (intakeClear s).drw =
    s.drw ∧ (intakeClear s).alm = s.alm ∧ (intakeClear s).lines = s.lines ∧ (intakeClear s).outputs = s.outputs ∧
    (intakeClear s).pending = s.pending ∧ (intakeClear s).ink.state = s.ink.state ∧ (intakeClear s).ink.record =
    s.ink.record ∧ (intakeClear s).ink.raster = s.ink.raster ∧ (intakeClear s).ink.fieldPage = s.ink.fieldPage ∧
    (intakeClear s).ink.fieldCol = s.ink.fieldCol ∧ (intakeClear s).ink.energy = s.ink.energy ∧ (intakeClear
    s).ink.mirror = s.ink.mirror ∧ (intakeClear s).ink.sensor = s.ink.sensor ∧ (intakeClear s).ink.sinceClear =
    s.ink.sinceClear ∧ (intakeClear s).ink.coveredInRun = s.ink.coveredInRun ∧ (intakeClear s).pkt.chute = s.pkt.chute
    ∧ (intakeClear s).pkt.gate = s.pkt.gate ∧ (intakeClear s).pkt.fairness = s.pkt.fairness ∧ (intakeClear
    s).pkt.capacity = s.pkt.capacity ∧ (intakeClear s).pt.peers = s.pt.peers ∧ (intakeClear s).pt.view = s.pt.view ∧
    (intakeClear s).pt.wallLimit = s.pt.wallLimit ∧ (intakeClear s).pt.quietEnded = s.pt.quietEnded ∧ (intakeClear
    s).pt.stuckSeen = s.pt.stuckSeen ∧ (intakeClear s).pt.statusTimer = s.pt.statusTimer ∧ (intakeClear s).biu.slow =
    s.biu.slow ∧ (intakeClear s).biu.attempt = s.biu.attempt ∧ (intakeClear s).biu.lastOutcome = s.biu.lastOutcome ∧
    (intakeClear s).biu.alarmFlag = s.biu.alarmFlag ∧ (intakeClear s).biu.wallQueue = s.biu.wallQueue ∧ (intakeClear
    s).biu.statusFlag = s.biu.statusFlag ∧ (intakeClear s).biu.voidCount = s.biu.voidCount ∧ (intakeClear s).biu.quiet
    = s.biu.quiet ∧ (intakeClear s).biu.stuck = s.biu.stuck ∧ (intakeClear s).biu.broken = s.biu.broken ∧ (intakeClear
    s).cmd.owner = s.cmd.owner ∧ (intakeClear s).cmd.acked = s.cmd.acked ∧ (intakeClear s).lsv.station = s.lsv.station
    ∧ (intakeClear s).lsv.transportDone = s.lsv.transportDone ∧ (intakeClear s).lsv.gotLane = s.lsv.gotLane ∧
    (intakeClear s).lsv.gotBins = s.lsv.gotBins ∧ (intakeClear s).lsv.serviceTimer = s.lsv.serviceTimer ∧ (intakeClear
    s).lsv.heldFault = s.lsv.heldFault ∧ (intakeClear s).lsv.heldRestarts = s.lsv.heldRestarts := by
  unfold intakeClear
  dsimp only
  (repeat' split) <;> simp

@[simp] theorem clearRequest_keeps (s : State) :
    (clearRequest s).cas = s.cas ∧ (clearRequest s).ntg = s.ntg ∧ (clearRequest s).dsp = s.dsp ∧ (clearRequest s).drw
    = s.drw ∧ (clearRequest s).alm = s.alm ∧ (clearRequest s).lines = s.lines ∧ (clearRequest s).outputs = s.outputs ∧
    (clearRequest s).pending = s.pending ∧ (clearRequest s).ink.raster = s.ink.raster ∧ (clearRequest s).ink.fieldPage
    = s.ink.fieldPage ∧ (clearRequest s).ink.fieldCol = s.ink.fieldCol ∧ (clearRequest s).ink.energy = s.ink.energy ∧
    (clearRequest s).ink.mirror = s.ink.mirror ∧ (clearRequest s).ink.sensor = s.ink.sensor ∧ (clearRequest
    s).pkt.chute = s.pkt.chute ∧ (clearRequest s).pkt.gate = s.pkt.gate ∧ (clearRequest s).pkt.fairness =
    s.pkt.fairness ∧ (clearRequest s).pkt.capacity = s.pkt.capacity ∧ (clearRequest s).pt.peers = s.pt.peers ∧
    (clearRequest s).pt.view = s.pt.view ∧ (clearRequest s).pt.wallLimit = s.pt.wallLimit ∧ (clearRequest
    s).pt.quietEnded = s.pt.quietEnded ∧ (clearRequest s).pt.stuckSeen = s.pt.stuckSeen ∧ (clearRequest
    s).pt.statusTimer = s.pt.statusTimer ∧ (clearRequest s).biu.slow = s.biu.slow ∧ (clearRequest s).biu.attempt =
    s.biu.attempt ∧ (clearRequest s).biu.lastOutcome = s.biu.lastOutcome ∧ (clearRequest s).biu.alarmFlag =
    s.biu.alarmFlag ∧ (clearRequest s).biu.wallQueue = s.biu.wallQueue ∧ (clearRequest s).biu.statusFlag =
    s.biu.statusFlag ∧ (clearRequest s).biu.voidCount = s.biu.voidCount ∧ (clearRequest s).biu.quiet = s.biu.quiet ∧
    (clearRequest s).biu.stuck = s.biu.stuck ∧ (clearRequest s).biu.broken = s.biu.broken ∧ (clearRequest s).cmd.owner
    = s.cmd.owner ∧ (clearRequest s).cmd.acked = s.cmd.acked ∧ (clearRequest s).lsv.station = s.lsv.station ∧
    (clearRequest s).lsv.transportDone = s.lsv.transportDone ∧ (clearRequest s).lsv.gotLane = s.lsv.gotLane ∧
    (clearRequest s).lsv.gotBins = s.lsv.gotBins ∧ (clearRequest s).lsv.serviceTimer = s.lsv.serviceTimer ∧
    (clearRequest s).lsv.heldFault = s.lsv.heldFault ∧ (clearRequest s).lsv.heldRestarts = s.lsv.heldRestarts := by
  unfold clearRequest
  dsimp only
  (repeat' split) <;> (repeat' apply And.intro) <;> first | rfl | simp

@[simp] theorem inkIdle_keeps (s : State) :
    (inkIdle s).cas = s.cas ∧ (inkIdle s).ntg = s.ntg ∧ (inkIdle s).dsp = s.dsp ∧ (inkIdle s).drw = s.drw ∧ (inkIdle
    s).alm = s.alm ∧ (inkIdle s).lines = s.lines ∧ (inkIdle s).outputs = s.outputs ∧ (inkIdle s).pending = s.pending ∧
    (inkIdle s).ink.raster = s.ink.raster ∧ (inkIdle s).ink.fieldPage = s.ink.fieldPage ∧ (inkIdle s).ink.fieldCol =
    s.ink.fieldCol ∧ (inkIdle s).ink.energy = s.ink.energy ∧ (inkIdle s).ink.mirror = s.ink.mirror ∧ (inkIdle
    s).ink.sensor = s.ink.sensor ∧ (inkIdle s).pkt.chute = s.pkt.chute ∧ (inkIdle s).pkt.gate = s.pkt.gate ∧ (inkIdle
    s).pkt.fairness = s.pkt.fairness ∧ (inkIdle s).pkt.capacity = s.pkt.capacity ∧ (inkIdle s).pt.peers = s.pt.peers ∧
    (inkIdle s).pt.view = s.pt.view ∧ (inkIdle s).pt.wallLimit = s.pt.wallLimit ∧ (inkIdle s).pt.quietEnded =
    s.pt.quietEnded ∧ (inkIdle s).pt.stuckSeen = s.pt.stuckSeen ∧ (inkIdle s).pt.statusTimer = s.pt.statusTimer ∧
    (inkIdle s).biu.slow = s.biu.slow ∧ (inkIdle s).biu.attempt = s.biu.attempt ∧ (inkIdle s).biu.lastOutcome =
    s.biu.lastOutcome ∧ (inkIdle s).biu.alarmFlag = s.biu.alarmFlag ∧ (inkIdle s).biu.wallQueue = s.biu.wallQueue ∧
    (inkIdle s).biu.statusFlag = s.biu.statusFlag ∧ (inkIdle s).biu.voidCount = s.biu.voidCount ∧ (inkIdle
    s).biu.quiet = s.biu.quiet ∧ (inkIdle s).biu.stuck = s.biu.stuck ∧ (inkIdle s).biu.broken = s.biu.broken ∧
    (inkIdle s).cmd.owner = s.cmd.owner ∧ (inkIdle s).cmd.acked = s.cmd.acked ∧ (inkIdle s).lsv.station =
    s.lsv.station ∧ (inkIdle s).lsv.transportDone = s.lsv.transportDone ∧ (inkIdle s).lsv.gotLane = s.lsv.gotLane ∧
    (inkIdle s).lsv.gotBins = s.lsv.gotBins ∧ (inkIdle s).lsv.serviceTimer = s.lsv.serviceTimer ∧ (inkIdle
    s).lsv.heldFault = s.lsv.heldFault ∧ (inkIdle s).lsv.heldRestarts = s.lsv.heldRestarts := by
  unfold inkIdle
  dsimp only
  (repeat' split) <;> simp

@[simp] theorem drawerClosed_keeps (s : State) :
    (drawerClosed s).cas = s.cas ∧ (drawerClosed s).ntg = s.ntg ∧ (drawerClosed s).dsp = s.dsp ∧ (drawerClosed s).drw
    = s.drw ∧ (drawerClosed s).alm = s.alm ∧ (drawerClosed s).lines = s.lines ∧ (drawerClosed s).outputs = s.outputs ∧
    (drawerClosed s).pending = s.pending ∧ (drawerClosed s).ink.raster = s.ink.raster ∧ (drawerClosed s).ink.fieldPage
    = s.ink.fieldPage ∧ (drawerClosed s).ink.fieldCol = s.ink.fieldCol ∧ (drawerClosed s).ink.energy = s.ink.energy ∧
    (drawerClosed s).ink.mirror = s.ink.mirror ∧ (drawerClosed s).ink.sensor = s.ink.sensor ∧ (drawerClosed
    s).pkt.chute = s.pkt.chute ∧ (drawerClosed s).pkt.gate = s.pkt.gate ∧ (drawerClosed s).pkt.fairness =
    s.pkt.fairness ∧ (drawerClosed s).pkt.capacity = s.pkt.capacity ∧ (drawerClosed s).pt.peers = s.pt.peers ∧
    (drawerClosed s).pt.view = s.pt.view ∧ (drawerClosed s).pt.wallLimit = s.pt.wallLimit ∧ (drawerClosed
    s).pt.quietEnded = s.pt.quietEnded ∧ (drawerClosed s).pt.stuckSeen = s.pt.stuckSeen ∧ (drawerClosed
    s).pt.statusTimer = s.pt.statusTimer ∧ (drawerClosed s).biu.slow = s.biu.slow ∧ (drawerClosed s).biu.attempt =
    s.biu.attempt ∧ (drawerClosed s).biu.lastOutcome = s.biu.lastOutcome ∧ (drawerClosed s).biu.alarmFlag =
    s.biu.alarmFlag ∧ (drawerClosed s).biu.wallQueue = s.biu.wallQueue ∧ (drawerClosed s).biu.statusFlag =
    s.biu.statusFlag ∧ (drawerClosed s).biu.voidCount = s.biu.voidCount ∧ (drawerClosed s).biu.quiet = s.biu.quiet ∧
    (drawerClosed s).biu.stuck = s.biu.stuck ∧ (drawerClosed s).biu.broken = s.biu.broken ∧ (drawerClosed s).cmd.owner
    = s.cmd.owner ∧ (drawerClosed s).cmd.acked = s.cmd.acked ∧ (drawerClosed s).lsv.station = s.lsv.station ∧
    (drawerClosed s).lsv.transportDone = s.lsv.transportDone ∧ (drawerClosed s).lsv.gotLane = s.lsv.gotLane ∧
    (drawerClosed s).lsv.gotBins = s.lsv.gotBins ∧ (drawerClosed s).lsv.serviceTimer = s.lsv.serviceTimer ∧
    (drawerClosed s).lsv.heldFault = s.lsv.heldFault ∧ (drawerClosed s).lsv.heldRestarts = s.lsv.heldRestarts := by
  unfold drawerClosed
  dsimp only
  (repeat' split) <;> simp

@[simp] theorem purgeDone_keeps (s : State) :
    (purgeDone s).cas = s.cas ∧ (purgeDone s).drw = s.drw ∧ (purgeDone s).ink = s.ink ∧ (purgeDone s).pkt = s.pkt ∧
    (purgeDone s).alm = s.alm ∧ (purgeDone s).biu = s.biu ∧ (purgeDone s).cmd = s.cmd ∧ (purgeDone s).lines = s.lines
    ∧ (purgeDone s).outputs = s.outputs ∧ (purgeDone s).pending = s.pending ∧ (purgeDone s).pt.peers = s.pt.peers ∧
    (purgeDone s).pt.view = s.pt.view ∧ (purgeDone s).pt.wallLimit = s.pt.wallLimit ∧ (purgeDone s).pt.quietEnded =
    s.pt.quietEnded ∧ (purgeDone s).pt.stuckSeen = s.pt.stuckSeen ∧ (purgeDone s).pt.statusTimer = s.pt.statusTimer ∧
    (purgeDone s).lsv.station = s.lsv.station ∧ (purgeDone s).lsv.stage = s.lsv.stage ∧ (purgeDone s).lsv.gotLane =
    s.lsv.gotLane ∧ (purgeDone s).lsv.gotBins = s.lsv.gotBins ∧ (purgeDone s).lsv.serviceTimer = s.lsv.serviceTimer ∧
    (purgeDone s).lsv.heldFault = s.lsv.heldFault ∧ (purgeDone s).lsv.heldRestarts = s.lsv.heldRestarts := by
  unfold purgeDone
  dsimp only
  (repeat' split) <;> simp

@[simp] theorem purgeHalt_keeps (cause : HaltCause) (s : State) :
    (purgeHalt cause s).cas = s.cas ∧ (purgeHalt cause s).drw = s.drw ∧ (purgeHalt cause s).ink = s.ink ∧ (purgeHalt
    cause s).pkt = s.pkt ∧ (purgeHalt cause s).alm = s.alm ∧ (purgeHalt cause s).lines = s.lines ∧ (purgeHalt cause
    s).outputs = s.outputs ∧ (purgeHalt cause s).pending = s.pending ∧ (purgeHalt cause s).pt.view = s.pt.view ∧
    (purgeHalt cause s).pt.listenIn = s.pt.listenIn ∧ (purgeHalt cause s).pt.wallLimit = s.pt.wallLimit ∧ (purgeHalt
    cause s).pt.quietEnded = s.pt.quietEnded ∧ (purgeHalt cause s).pt.stuckSeen = s.pt.stuckSeen ∧ (purgeHalt cause
    s).pt.statusTimer = s.pt.statusTimer ∧ (purgeHalt cause s).biu.slow = s.biu.slow ∧ (purgeHalt cause s).biu.attempt
    = s.biu.attempt ∧ (purgeHalt cause s).biu.lastOutcome = s.biu.lastOutcome ∧ (purgeHalt cause s).biu.alarmFlag =
    s.biu.alarmFlag ∧ (purgeHalt cause s).biu.statusFlag = s.biu.statusFlag ∧ (purgeHalt cause s).biu.voidCount =
    s.biu.voidCount ∧ (purgeHalt cause s).biu.quiet = s.biu.quiet ∧ (purgeHalt cause s).biu.stuck = s.biu.stuck ∧
    (purgeHalt cause s).biu.broken = s.biu.broken ∧ (purgeHalt cause s).cmd.owner = s.cmd.owner ∧ (purgeHalt cause
    s).cmd.acked = s.cmd.acked ∧ (purgeHalt cause s).lsv.station = s.lsv.station ∧ (purgeHalt cause s).lsv.stage =
    s.lsv.stage ∧ (purgeHalt cause s).lsv.transportDone = s.lsv.transportDone ∧ (purgeHalt cause s).lsv.gotLane =
    s.lsv.gotLane ∧ (purgeHalt cause s).lsv.gotBins = s.lsv.gotBins ∧ (purgeHalt cause s).lsv.serviceTimer =
    s.lsv.serviceTimer ∧ (purgeHalt cause s).lsv.heldFault = s.lsv.heldFault ∧ (purgeHalt cause s).lsv.heldRestarts =
    s.lsv.heldRestarts := by
  unfold purgeHalt
  dsimp only
  (repeat' split) <;> simp

@[simp] theorem transportHalt_keeps (cause : HaltCause) (s : State) :
    (transportHalt cause s).cas = s.cas ∧ (transportHalt cause s).drw = s.drw ∧ (transportHalt cause s).ink = s.ink ∧
    (transportHalt cause s).pkt = s.pkt ∧ (transportHalt cause s).alm = s.alm ∧ (transportHalt cause s).lines =
    s.lines ∧ (transportHalt cause s).outputs = s.outputs ∧ (transportHalt cause s).pending = s.pending ∧
    (transportHalt cause s).pt.view = s.pt.view ∧ (transportHalt cause s).pt.listenIn = s.pt.listenIn ∧ (transportHalt
    cause s).pt.wallLimit = s.pt.wallLimit ∧ (transportHalt cause s).pt.quietEnded = s.pt.quietEnded ∧ (transportHalt
    cause s).pt.stuckSeen = s.pt.stuckSeen ∧ (transportHalt cause s).pt.statusTimer = s.pt.statusTimer ∧
    (transportHalt cause s).biu.slow = s.biu.slow ∧ (transportHalt cause s).biu.attempt = s.biu.attempt ∧
    (transportHalt cause s).biu.lastOutcome = s.biu.lastOutcome ∧ (transportHalt cause s).biu.alarmFlag =
    s.biu.alarmFlag ∧ (transportHalt cause s).biu.statusFlag = s.biu.statusFlag ∧ (transportHalt cause
    s).biu.voidCount = s.biu.voidCount ∧ (transportHalt cause s).biu.quiet = s.biu.quiet ∧ (transportHalt cause
    s).biu.stuck = s.biu.stuck ∧ (transportHalt cause s).biu.broken = s.biu.broken ∧ (transportHalt cause s).cmd.owner
    = s.cmd.owner ∧ (transportHalt cause s).cmd.acked = s.cmd.acked ∧ (transportHalt cause s).lsv.station =
    s.lsv.station ∧ (transportHalt cause s).lsv.stage = s.lsv.stage ∧ (transportHalt cause s).lsv.transportDone =
    s.lsv.transportDone ∧ (transportHalt cause s).lsv.gotLane = s.lsv.gotLane ∧ (transportHalt cause s).lsv.gotBins =
    s.lsv.gotBins ∧ (transportHalt cause s).lsv.serviceTimer = s.lsv.serviceTimer ∧ (transportHalt cause
    s).lsv.heldRestarts = s.lsv.heldRestarts := by
  simp only [transportHalt]; (repeat' split) <;> simp

@[simp] theorem purgeHandOver_keeps (r : Routed) (s : State) :
    (purgeHandOver r s).cas = s.cas ∧ (purgeHandOver r s).drw = s.drw ∧ (purgeHandOver r s).ink = s.ink ∧
    (purgeHandOver r s).pkt = s.pkt ∧ (purgeHandOver r s).alm = s.alm ∧ (purgeHandOver r s).lines = s.lines ∧
    (purgeHandOver r s).outputs = s.outputs ∧ (purgeHandOver r s).pending = s.pending ∧ (purgeHandOver r s).pt.view =
    s.pt.view ∧ (purgeHandOver r s).pt.listenIn = s.pt.listenIn ∧ (purgeHandOver r s).pt.wallLimit = s.pt.wallLimit ∧
    (purgeHandOver r s).pt.quietEnded = s.pt.quietEnded ∧ (purgeHandOver r s).pt.stuckSeen = s.pt.stuckSeen ∧
    (purgeHandOver r s).pt.statusTimer = s.pt.statusTimer ∧ (purgeHandOver r s).biu.slow = s.biu.slow ∧ (purgeHandOver
    r s).biu.attempt = s.biu.attempt ∧ (purgeHandOver r s).biu.lastOutcome = s.biu.lastOutcome ∧ (purgeHandOver r
    s).biu.alarmFlag = s.biu.alarmFlag ∧ (purgeHandOver r s).biu.statusFlag = s.biu.statusFlag ∧ (purgeHandOver r
    s).biu.voidCount = s.biu.voidCount ∧ (purgeHandOver r s).biu.quiet = s.biu.quiet ∧ (purgeHandOver r s).biu.stuck =
    s.biu.stuck ∧ (purgeHandOver r s).biu.broken = s.biu.broken ∧ (purgeHandOver r s).cmd.owner = s.cmd.owner ∧
    (purgeHandOver r s).cmd.acked = s.cmd.acked ∧ (purgeHandOver r s).lsv.station = s.lsv.station ∧ (purgeHandOver r
    s).lsv.stage = s.lsv.stage ∧ (purgeHandOver r s).lsv.transportDone = s.lsv.transportDone ∧ (purgeHandOver r
    s).lsv.gotLane = s.lsv.gotLane ∧ (purgeHandOver r s).lsv.gotBins = s.lsv.gotBins ∧ (purgeHandOver r
    s).lsv.serviceTimer = s.lsv.serviceTimer ∧ (purgeHandOver r s).lsv.heldFault = s.lsv.heldFault ∧ (purgeHandOver r
    s).lsv.heldRestarts = s.lsv.heldRestarts := by
  unfold purgeHandOver
  dsimp only
  (repeat' split) <;> simp

@[simp] theorem enterPurging_keeps (s : State) :
    (enterPurging s).cas = s.cas ∧ (enterPurging s).alm = s.alm ∧ (enterPurging s).lines = s.lines ∧ (enterPurging
    s).outputs = s.outputs ∧ (enterPurging s).pending = s.pending ∧ (enterPurging s).ink.raster = s.ink.raster ∧
    (enterPurging s).ink.fieldPage = s.ink.fieldPage ∧ (enterPurging s).ink.fieldCol = s.ink.fieldCol ∧ (enterPurging
    s).ink.energy = s.ink.energy ∧ (enterPurging s).ink.mirror = s.ink.mirror ∧ (enterPurging s).ink.sensor =
    s.ink.sensor ∧ (enterPurging s).pkt.gate = s.pkt.gate ∧ (enterPurging s).pkt.fairness = s.pkt.fairness ∧
    (enterPurging s).pkt.capacity = s.pkt.capacity ∧ (enterPurging s).pt.view = s.pt.view ∧ (enterPurging
    s).pt.wallLimit = s.pt.wallLimit ∧ (enterPurging s).pt.quietEnded = s.pt.quietEnded ∧ (enterPurging
    s).pt.stuckSeen = s.pt.stuckSeen ∧ (enterPurging s).pt.statusTimer = s.pt.statusTimer ∧ (enterPurging s).biu.slow
    = s.biu.slow ∧ (enterPurging s).biu.attempt = s.biu.attempt ∧ (enterPurging s).biu.lastOutcome = s.biu.lastOutcome
    ∧ (enterPurging s).biu.alarmFlag = s.biu.alarmFlag ∧ (enterPurging s).biu.statusFlag = s.biu.statusFlag ∧
    (enterPurging s).biu.voidCount = s.biu.voidCount ∧ (enterPurging s).biu.quiet = s.biu.quiet ∧ (enterPurging
    s).biu.stuck = s.biu.stuck ∧ (enterPurging s).biu.broken = s.biu.broken ∧ (enterPurging s).cmd.owner = s.cmd.owner
    ∧ (enterPurging s).cmd.acked = s.cmd.acked ∧ (enterPurging s).lsv.station = s.lsv.station ∧ (enterPurging
    s).lsv.gotLane = s.lsv.gotLane ∧ (enterPurging s).lsv.gotBins = s.lsv.gotBins ∧ (enterPurging s).lsv.serviceTimer
    = s.lsv.serviceTimer ∧ (enterPurging s).lsv.heldFault = s.lsv.heldFault ∧ (enterPurging s).lsv.heldRestarts =
    s.lsv.heldRestarts := by
  unfold enterPurging
  dsimp only
  (repeat' split) <;> simp

@[simp] theorem drawerJam_keeps (cause : DrwJam) (s : State) :
    (drawerJam cause s).cas = s.cas ∧ (drawerJam cause s).ink = s.ink ∧ (drawerJam cause s).alm = s.alm ∧ (drawerJam
    cause s).lines = s.lines ∧ (drawerJam cause s).outputs = s.outputs ∧ (drawerJam cause s).pending = s.pending ∧
    (drawerJam cause s).pkt.chute = s.pkt.chute ∧ (drawerJam cause s).pkt.gate = s.pkt.gate ∧ (drawerJam cause
    s).pkt.fairness = s.pkt.fairness ∧ (drawerJam cause s).pkt.capacity = s.pkt.capacity ∧ (drawerJam cause s).pt.view
    = s.pt.view ∧ (drawerJam cause s).pt.listenIn = s.pt.listenIn ∧ (drawerJam cause s).pt.wallLimit = s.pt.wallLimit
    ∧ (drawerJam cause s).pt.quietEnded = s.pt.quietEnded ∧ (drawerJam cause s).pt.stuckSeen = s.pt.stuckSeen ∧
    (drawerJam cause s).pt.statusTimer = s.pt.statusTimer ∧ (drawerJam cause s).biu.slow = s.biu.slow ∧ (drawerJam
    cause s).biu.attempt = s.biu.attempt ∧ (drawerJam cause s).biu.lastOutcome = s.biu.lastOutcome ∧ (drawerJam cause
    s).biu.alarmFlag = s.biu.alarmFlag ∧ (drawerJam cause s).biu.statusFlag = s.biu.statusFlag ∧ (drawerJam cause
    s).biu.voidCount = s.biu.voidCount ∧ (drawerJam cause s).biu.quiet = s.biu.quiet ∧ (drawerJam cause s).biu.stuck =
    s.biu.stuck ∧ (drawerJam cause s).biu.broken = s.biu.broken ∧ (drawerJam cause s).cmd.owner = s.cmd.owner ∧
    (drawerJam cause s).cmd.acked = s.cmd.acked ∧ (drawerJam cause s).lsv.station = s.lsv.station ∧ (drawerJam cause
    s).lsv.stage = s.lsv.stage ∧ (drawerJam cause s).lsv.transportDone = s.lsv.transportDone ∧ (drawerJam cause
    s).lsv.gotLane = s.lsv.gotLane ∧ (drawerJam cause s).lsv.gotBins = s.lsv.gotBins ∧ (drawerJam cause
    s).lsv.serviceTimer = s.lsv.serviceTimer ∧ (drawerJam cause s).lsv.heldRestarts = s.lsv.heldRestarts := by
  unfold drawerJam
  dsimp only
  (repeat' split) <;> simp

@[simp] theorem clearPurpose_keeps (s : State) :
    (clearPurpose s).cas = s.cas ∧ (clearPurpose s).ntg = s.ntg ∧ (clearPurpose s).dsp = s.dsp ∧ (clearPurpose s).ink
    = s.ink ∧ (clearPurpose s).pkt = s.pkt ∧ (clearPurpose s).pt = s.pt ∧ (clearPurpose s).alm = s.alm ∧ (clearPurpose
    s).biu = s.biu ∧ (clearPurpose s).cmd = s.cmd ∧ (clearPurpose s).lsv = s.lsv ∧ (clearPurpose s).lines = s.lines ∧
    (clearPurpose s).outputs = s.outputs ∧ (clearPurpose s).pending = s.pending := by
  simp [clearPurpose]

@[simp] theorem dealHome_keeps (s : State) :
    (dealHome s).cas = s.cas ∧ (dealHome s).alm = s.alm ∧ (dealHome s).lines = s.lines ∧ (dealHome s).outputs =
    s.outputs ∧ (dealHome s).pending = s.pending ∧ (dealHome s).pkt.chute = s.pkt.chute ∧ (dealHome s).pkt.gate =
    s.pkt.gate ∧ (dealHome s).pkt.fairness = s.pkt.fairness ∧ (dealHome s).pkt.capacity = s.pkt.capacity ∧ (dealHome
    s).pt.view = s.pt.view ∧ (dealHome s).pt.listenIn = s.pt.listenIn ∧ (dealHome s).pt.wallLimit = s.pt.wallLimit ∧
    (dealHome s).pt.quietEnded = s.pt.quietEnded ∧ (dealHome s).pt.stuckSeen = s.pt.stuckSeen ∧ (dealHome
    s).pt.statusTimer = s.pt.statusTimer ∧ (dealHome s).biu.slow = s.biu.slow ∧ (dealHome s).biu.attempt =
    s.biu.attempt ∧ (dealHome s).biu.lastOutcome = s.biu.lastOutcome ∧ (dealHome s).biu.alarmFlag = s.biu.alarmFlag ∧
    (dealHome s).biu.statusFlag = s.biu.statusFlag ∧ (dealHome s).biu.voidCount = s.biu.voidCount ∧ (dealHome
    s).biu.quiet = s.biu.quiet ∧ (dealHome s).biu.stuck = s.biu.stuck ∧ (dealHome s).biu.broken = s.biu.broken ∧
    (dealHome s).cmd.owner = s.cmd.owner ∧ (dealHome s).cmd.acked = s.cmd.acked ∧ (dealHome s).lsv.station =
    s.lsv.station ∧ (dealHome s).lsv.stage = s.lsv.stage ∧ (dealHome s).lsv.transportDone = s.lsv.transportDone ∧
    (dealHome s).lsv.gotLane = s.lsv.gotLane ∧ (dealHome s).lsv.gotBins = s.lsv.gotBins ∧ (dealHome
    s).lsv.serviceTimer = s.lsv.serviceTimer ∧ (dealHome s).lsv.heldRestarts = s.lsv.heldRestarts := by
  unfold dealHome
  dsimp only
  (repeat' split) <;> simp

@[simp] theorem drawerArrives_keeps (s : State) :
    (drawerArrives s).cas = s.cas ∧ (drawerArrives s).alm = s.alm ∧ (drawerArrives s).lines = s.lines ∧ (drawerArrives
    s).outputs = s.outputs ∧ (drawerArrives s).pending = s.pending ∧ (drawerArrives s).pkt.chute = s.pkt.chute ∧
    (drawerArrives s).pkt.gate = s.pkt.gate ∧ (drawerArrives s).pkt.fairness = s.pkt.fairness ∧ (drawerArrives
    s).pkt.capacity = s.pkt.capacity ∧ (drawerArrives s).pt.view = s.pt.view ∧ (drawerArrives s).pt.wallLimit =
    s.pt.wallLimit ∧ (drawerArrives s).pt.quietEnded = s.pt.quietEnded ∧ (drawerArrives s).pt.stuckSeen =
    s.pt.stuckSeen ∧ (drawerArrives s).pt.statusTimer = s.pt.statusTimer ∧ (drawerArrives s).biu.slow = s.biu.slow ∧
    (drawerArrives s).biu.attempt = s.biu.attempt ∧ (drawerArrives s).biu.lastOutcome = s.biu.lastOutcome ∧
    (drawerArrives s).biu.alarmFlag = s.biu.alarmFlag ∧ (drawerArrives s).biu.statusFlag = s.biu.statusFlag ∧
    (drawerArrives s).biu.voidCount = s.biu.voidCount ∧ (drawerArrives s).biu.quiet = s.biu.quiet ∧ (drawerArrives
    s).biu.stuck = s.biu.stuck ∧ (drawerArrives s).biu.broken = s.biu.broken ∧ (drawerArrives s).cmd.owner =
    s.cmd.owner ∧ (drawerArrives s).cmd.acked = s.cmd.acked ∧ (drawerArrives s).lsv.station = s.lsv.station ∧
    (drawerArrives s).lsv.transportDone = s.lsv.transportDone ∧ (drawerArrives s).lsv.gotLane = s.lsv.gotLane ∧
    (drawerArrives s).lsv.gotBins = s.lsv.gotBins ∧ (drawerArrives s).lsv.serviceTimer = s.lsv.serviceTimer ∧
    (drawerArrives s).lsv.heldRestarts = s.lsv.heldRestarts := by
  simp [drawerArrives]

@[simp] theorem loadEnds_keeps (s : State) :
    (loadEnds s).cas = s.cas ∧ (loadEnds s).alm = s.alm ∧ (loadEnds s).lines = s.lines ∧ (loadEnds s).outputs =
    s.outputs ∧ (loadEnds s).pending = s.pending ∧ (loadEnds s).pkt.chute = s.pkt.chute ∧ (loadEnds s).pkt.gate =
    s.pkt.gate ∧ (loadEnds s).pkt.fairness = s.pkt.fairness ∧ (loadEnds s).pkt.capacity = s.pkt.capacity ∧ (loadEnds
    s).pt.view = s.pt.view ∧ (loadEnds s).pt.wallLimit = s.pt.wallLimit ∧ (loadEnds s).pt.quietEnded = s.pt.quietEnded
    ∧ (loadEnds s).pt.stuckSeen = s.pt.stuckSeen ∧ (loadEnds s).pt.statusTimer = s.pt.statusTimer ∧ (loadEnds
    s).biu.slow = s.biu.slow ∧ (loadEnds s).biu.attempt = s.biu.attempt ∧ (loadEnds s).biu.lastOutcome =
    s.biu.lastOutcome ∧ (loadEnds s).biu.alarmFlag = s.biu.alarmFlag ∧ (loadEnds s).biu.statusFlag = s.biu.statusFlag
    ∧ (loadEnds s).biu.voidCount = s.biu.voidCount ∧ (loadEnds s).biu.quiet = s.biu.quiet ∧ (loadEnds s).biu.stuck =
    s.biu.stuck ∧ (loadEnds s).biu.broken = s.biu.broken ∧ (loadEnds s).cmd.owner = s.cmd.owner ∧ (loadEnds
    s).cmd.acked = s.cmd.acked ∧ (loadEnds s).lsv.station = s.lsv.station ∧ (loadEnds s).lsv.transportDone =
    s.lsv.transportDone ∧ (loadEnds s).lsv.gotLane = s.lsv.gotLane ∧ (loadEnds s).lsv.gotBins = s.lsv.gotBins ∧
    (loadEnds s).lsv.serviceTimer = s.lsv.serviceTimer ∧ (loadEnds s).lsv.heldRestarts = s.lsv.heldRestarts := by
  unfold loadEnds
  dsimp only
  (repeat' split) <;> simp

@[simp] theorem ejectEnded_keeps (s : State) :
    (ejectEnded s).cas = s.cas ∧ (ejectEnded s).alm = s.alm ∧ (ejectEnded s).lines = s.lines ∧ (ejectEnded s).outputs
    = s.outputs ∧ (ejectEnded s).pending = s.pending ∧ (ejectEnded s).pkt.chute = s.pkt.chute ∧ (ejectEnded
    s).pkt.gate = s.pkt.gate ∧ (ejectEnded s).pkt.fairness = s.pkt.fairness ∧ (ejectEnded s).pkt.capacity =
    s.pkt.capacity ∧ (ejectEnded s).pt.view = s.pt.view ∧ (ejectEnded s).pt.wallLimit = s.pt.wallLimit ∧ (ejectEnded
    s).pt.quietEnded = s.pt.quietEnded ∧ (ejectEnded s).pt.stuckSeen = s.pt.stuckSeen ∧ (ejectEnded s).pt.statusTimer
    = s.pt.statusTimer ∧ (ejectEnded s).biu.slow = s.biu.slow ∧ (ejectEnded s).biu.attempt = s.biu.attempt ∧
    (ejectEnded s).biu.lastOutcome = s.biu.lastOutcome ∧ (ejectEnded s).biu.alarmFlag = s.biu.alarmFlag ∧ (ejectEnded
    s).biu.statusFlag = s.biu.statusFlag ∧ (ejectEnded s).biu.voidCount = s.biu.voidCount ∧ (ejectEnded s).biu.quiet =
    s.biu.quiet ∧ (ejectEnded s).biu.stuck = s.biu.stuck ∧ (ejectEnded s).biu.broken = s.biu.broken ∧ (ejectEnded
    s).cmd.owner = s.cmd.owner ∧ (ejectEnded s).cmd.acked = s.cmd.acked ∧ (ejectEnded s).lsv.station = s.lsv.station ∧
    (ejectEnded s).lsv.transportDone = s.lsv.transportDone ∧ (ejectEnded s).lsv.gotLane = s.lsv.gotLane ∧ (ejectEnded
    s).lsv.gotBins = s.lsv.gotBins ∧ (ejectEnded s).lsv.serviceTimer = s.lsv.serviceTimer ∧ (ejectEnded
    s).lsv.heldRestarts = s.lsv.heldRestarts := by
  simp only [ejectEnded]; (repeat' split) <;> simp

@[simp] theorem trayReady_keeps (s : State) :
    (trayReady s).cas = s.cas ∧ (trayReady s).alm = s.alm ∧ (trayReady s).lines = s.lines ∧ (trayReady s).outputs =
    s.outputs ∧ (trayReady s).pending = s.pending ∧ (trayReady s).pkt.chute = s.pkt.chute ∧ (trayReady s).pkt.gate =
    s.pkt.gate ∧ (trayReady s).pkt.fairness = s.pkt.fairness ∧ (trayReady s).pkt.capacity = s.pkt.capacity ∧
    (trayReady s).pt.view = s.pt.view ∧ (trayReady s).pt.wallLimit = s.pt.wallLimit ∧ (trayReady s).pt.quietEnded =
    s.pt.quietEnded ∧ (trayReady s).pt.stuckSeen = s.pt.stuckSeen ∧ (trayReady s).pt.statusTimer = s.pt.statusTimer ∧
    (trayReady s).biu.slow = s.biu.slow ∧ (trayReady s).biu.attempt = s.biu.attempt ∧ (trayReady s).biu.lastOutcome =
    s.biu.lastOutcome ∧ (trayReady s).biu.alarmFlag = s.biu.alarmFlag ∧ (trayReady s).biu.statusFlag =
    s.biu.statusFlag ∧ (trayReady s).biu.voidCount = s.biu.voidCount ∧ (trayReady s).biu.quiet = s.biu.quiet ∧
    (trayReady s).biu.stuck = s.biu.stuck ∧ (trayReady s).biu.broken = s.biu.broken ∧ (trayReady s).cmd.owner =
    s.cmd.owner ∧ (trayReady s).cmd.acked = s.cmd.acked ∧ (trayReady s).lsv.station = s.lsv.station ∧ (trayReady
    s).lsv.transportDone = s.lsv.transportDone ∧ (trayReady s).lsv.gotLane = s.lsv.gotLane ∧ (trayReady s).lsv.gotBins
    = s.lsv.gotBins ∧ (trayReady s).lsv.serviceTimer = s.lsv.serviceTimer ∧ (trayReady s).lsv.heldRestarts =
    s.lsv.heldRestarts := by
  simp only [trayReady]; (repeat' split) <;> simp

@[simp] theorem itemTaken_keeps (s : State) :
    (itemTaken s).cas = s.cas ∧ (itemTaken s).ink = s.ink ∧ (itemTaken s).alm = s.alm ∧ (itemTaken s).lsv = s.lsv ∧
    (itemTaken s).lines = s.lines ∧ (itemTaken s).outputs = s.outputs ∧ (itemTaken s).pending = s.pending ∧ (itemTaken
    s).pkt.chute = s.pkt.chute ∧ (itemTaken s).pkt.gate = s.pkt.gate ∧ (itemTaken s).pkt.fairness = s.pkt.fairness ∧
    (itemTaken s).pkt.capacity = s.pkt.capacity ∧ (itemTaken s).pt.view = s.pt.view ∧ (itemTaken s).pt.listenIn =
    s.pt.listenIn ∧ (itemTaken s).pt.wallLimit = s.pt.wallLimit ∧ (itemTaken s).pt.quietEnded = s.pt.quietEnded ∧
    (itemTaken s).pt.stuckSeen = s.pt.stuckSeen ∧ (itemTaken s).pt.statusTimer = s.pt.statusTimer ∧ (itemTaken
    s).biu.slow = s.biu.slow ∧ (itemTaken s).biu.attempt = s.biu.attempt ∧ (itemTaken s).biu.lastOutcome =
    s.biu.lastOutcome ∧ (itemTaken s).biu.alarmFlag = s.biu.alarmFlag ∧ (itemTaken s).biu.statusFlag =
    s.biu.statusFlag ∧ (itemTaken s).biu.voidCount = s.biu.voidCount ∧ (itemTaken s).biu.quiet = s.biu.quiet ∧
    (itemTaken s).biu.stuck = s.biu.stuck ∧ (itemTaken s).biu.broken = s.biu.broken ∧ (itemTaken s).cmd.owner =
    s.cmd.owner ∧ (itemTaken s).cmd.acked = s.cmd.acked := by
  unfold itemTaken
  dsimp only
  (repeat' split) <;> simp

@[simp] theorem drawerOpens_keeps (s : State) :
    (drawerOpens s).cas = s.cas ∧ (drawerOpens s).ntg = s.ntg ∧ (drawerOpens s).dsp = s.dsp ∧ (drawerOpens s).ink =
    s.ink ∧ (drawerOpens s).pkt = s.pkt ∧ (drawerOpens s).pt = s.pt ∧ (drawerOpens s).alm = s.alm ∧ (drawerOpens
    s).lsv = s.lsv ∧ (drawerOpens s).lines = s.lines ∧ (drawerOpens s).outputs = s.outputs ∧ (drawerOpens s).pending =
    s.pending ∧ (drawerOpens s).biu.slow = s.biu.slow ∧ (drawerOpens s).biu.attempt = s.biu.attempt ∧ (drawerOpens
    s).biu.lastOutcome = s.biu.lastOutcome ∧ (drawerOpens s).biu.alarmFlag = s.biu.alarmFlag ∧ (drawerOpens
    s).biu.wallQueue = s.biu.wallQueue ∧ (drawerOpens s).biu.statusFlag = s.biu.statusFlag ∧ (drawerOpens
    s).biu.voidCount = s.biu.voidCount ∧ (drawerOpens s).biu.quiet = s.biu.quiet ∧ (drawerOpens s).biu.stuck =
    s.biu.stuck ∧ (drawerOpens s).biu.broken = s.biu.broken ∧ (drawerOpens s).cmd.owner = s.cmd.owner ∧ (drawerOpens
    s).cmd.acked = s.cmd.acked := by
  unfold drawerOpens
  dsimp only
  (repeat' split) <;> simp

@[simp] theorem backedOff_keeps (s : State) :
    (backedOff s).cas = s.cas ∧ (backedOff s).ntg = s.ntg ∧ (backedOff s).dsp = s.dsp ∧ (backedOff s).ink = s.ink ∧
    (backedOff s).pkt = s.pkt ∧ (backedOff s).pt = s.pt ∧ (backedOff s).alm = s.alm ∧ (backedOff s).lsv = s.lsv ∧
    (backedOff s).lines = s.lines ∧ (backedOff s).outputs = s.outputs ∧ (backedOff s).pending = s.pending ∧ (backedOff
    s).biu.slow = s.biu.slow ∧ (backedOff s).biu.attempt = s.biu.attempt ∧ (backedOff s).biu.lastOutcome =
    s.biu.lastOutcome ∧ (backedOff s).biu.alarmFlag = s.biu.alarmFlag ∧ (backedOff s).biu.wallQueue = s.biu.wallQueue
    ∧ (backedOff s).biu.statusFlag = s.biu.statusFlag ∧ (backedOff s).biu.voidCount = s.biu.voidCount ∧ (backedOff
    s).biu.quiet = s.biu.quiet ∧ (backedOff s).biu.stuck = s.biu.stuck ∧ (backedOff s).biu.broken = s.biu.broken ∧
    (backedOff s).cmd.owner = s.cmd.owner ∧ (backedOff s).cmd.acked = s.cmd.acked := by
  unfold backedOff
  dsimp only
  (repeat' split) <;> simp

@[simp] theorem takeExpires_keeps (s : State) :
    (takeExpires s).cas = s.cas ∧ (takeExpires s).ink = s.ink ∧ (takeExpires s).alm = s.alm ∧ (takeExpires s).lsv =
    s.lsv ∧ (takeExpires s).lines = s.lines ∧ (takeExpires s).outputs = s.outputs ∧ (takeExpires s).pending =
    s.pending ∧ (takeExpires s).pkt.chute = s.pkt.chute ∧ (takeExpires s).pkt.gate = s.pkt.gate ∧ (takeExpires
    s).pkt.fairness = s.pkt.fairness ∧ (takeExpires s).pkt.capacity = s.pkt.capacity ∧ (takeExpires s).pt.view =
    s.pt.view ∧ (takeExpires s).pt.listenIn = s.pt.listenIn ∧ (takeExpires s).pt.wallLimit = s.pt.wallLimit ∧
    (takeExpires s).pt.quietEnded = s.pt.quietEnded ∧ (takeExpires s).pt.stuckSeen = s.pt.stuckSeen ∧ (takeExpires
    s).pt.statusTimer = s.pt.statusTimer ∧ (takeExpires s).biu.slow = s.biu.slow ∧ (takeExpires s).biu.attempt =
    s.biu.attempt ∧ (takeExpires s).biu.lastOutcome = s.biu.lastOutcome ∧ (takeExpires s).biu.alarmFlag =
    s.biu.alarmFlag ∧ (takeExpires s).biu.statusFlag = s.biu.statusFlag ∧ (takeExpires s).biu.voidCount =
    s.biu.voidCount ∧ (takeExpires s).biu.quiet = s.biu.quiet ∧ (takeExpires s).biu.stuck = s.biu.stuck ∧ (takeExpires
    s).biu.broken = s.biu.broken ∧ (takeExpires s).cmd.owner = s.cmd.owner ∧ (takeExpires s).cmd.acked = s.cmd.acked := by
  unfold takeExpires
  dsimp only
  (repeat' split) <;> simp

@[simp] theorem sweepEnds_keeps (s : State) :
    (sweepEnds s).cas = s.cas ∧ (sweepEnds s).ink = s.ink ∧ (sweepEnds s).pkt = s.pkt ∧ (sweepEnds s).alm = s.alm ∧
    (sweepEnds s).lines = s.lines ∧ (sweepEnds s).outputs = s.outputs ∧ (sweepEnds s).pending = s.pending ∧ (sweepEnds
    s).pt.view = s.pt.view ∧ (sweepEnds s).pt.listenIn = s.pt.listenIn ∧ (sweepEnds s).pt.wallLimit = s.pt.wallLimit ∧
    (sweepEnds s).pt.quietEnded = s.pt.quietEnded ∧ (sweepEnds s).pt.stuckSeen = s.pt.stuckSeen ∧ (sweepEnds
    s).pt.statusTimer = s.pt.statusTimer ∧ (sweepEnds s).biu.slow = s.biu.slow ∧ (sweepEnds s).biu.attempt =
    s.biu.attempt ∧ (sweepEnds s).biu.lastOutcome = s.biu.lastOutcome ∧ (sweepEnds s).biu.alarmFlag = s.biu.alarmFlag
    ∧ (sweepEnds s).biu.statusFlag = s.biu.statusFlag ∧ (sweepEnds s).biu.voidCount = s.biu.voidCount ∧ (sweepEnds
    s).biu.quiet = s.biu.quiet ∧ (sweepEnds s).biu.stuck = s.biu.stuck ∧ (sweepEnds s).biu.broken = s.biu.broken ∧
    (sweepEnds s).cmd.owner = s.cmd.owner ∧ (sweepEnds s).cmd.acked = s.cmd.acked ∧ (sweepEnds s).lsv.station =
    s.lsv.station ∧ (sweepEnds s).lsv.stage = s.lsv.stage ∧ (sweepEnds s).lsv.transportDone = s.lsv.transportDone ∧
    (sweepEnds s).lsv.gotLane = s.lsv.gotLane ∧ (sweepEnds s).lsv.gotBins = s.lsv.gotBins ∧ (sweepEnds
    s).lsv.serviceTimer = s.lsv.serviceTimer ∧ (sweepEnds s).lsv.heldRestarts = s.lsv.heldRestarts := by
  unfold sweepEnds
  dsimp only
  (repeat' split) <;> simp

@[simp] theorem endService_keeps (s : State) :
    (endService s).cas = s.cas ∧ (endService s).ink = s.ink ∧ (endService s).pkt = s.pkt ∧ (endService s).lines =
    s.lines ∧ (endService s).outputs = s.outputs ∧ (endService s).pending = s.pending ∧ (endService s).pt.view =
    s.pt.view ∧ (endService s).pt.listenIn = s.pt.listenIn ∧ (endService s).pt.wallLimit = s.pt.wallLimit ∧
    (endService s).pt.quietEnded = s.pt.quietEnded ∧ (endService s).pt.stuckSeen = s.pt.stuckSeen ∧ (endService
    s).pt.statusTimer = s.pt.statusTimer ∧ (endService s).alm.loops = s.alm.loops ∧ (endService s).biu.slow =
    s.biu.slow ∧ (endService s).biu.attempt = s.biu.attempt ∧ (endService s).biu.lastOutcome = s.biu.lastOutcome ∧
    (endService s).biu.statusFlag = s.biu.statusFlag ∧ (endService s).biu.voidCount = s.biu.voidCount ∧ (endService
    s).biu.quiet = s.biu.quiet ∧ (endService s).biu.stuck = s.biu.stuck ∧ (endService s).biu.broken = s.biu.broken ∧
    (endService s).cmd.owner = s.cmd.owner ∧ (endService s).cmd.acked = s.cmd.acked ∧ (endService s).lsv.station =
    s.lsv.station ∧ (endService s).lsv.stage = s.lsv.stage ∧ (endService s).lsv.transportDone = s.lsv.transportDone ∧
    (endService s).lsv.gotLane = s.lsv.gotLane ∧ (endService s).lsv.gotBins = s.lsv.gotBins ∧ (endService
    s).lsv.heldRestarts = s.lsv.heldRestarts := by
  simp [endService]

@[simp] theorem drawerRestart_keeps (s : State) :
    (drawerRestart s).cas = s.cas ∧ (drawerRestart s).ink = s.ink ∧ (drawerRestart s).alm = s.alm ∧ (drawerRestart
    s).lines = s.lines ∧ (drawerRestart s).outputs = s.outputs ∧ (drawerRestart s).pending = s.pending ∧
    (drawerRestart s).pkt.chute = s.pkt.chute ∧ (drawerRestart s).pkt.gate = s.pkt.gate ∧ (drawerRestart
    s).pkt.fairness = s.pkt.fairness ∧ (drawerRestart s).pkt.capacity = s.pkt.capacity ∧ (drawerRestart s).pt.view =
    s.pt.view ∧ (drawerRestart s).pt.listenIn = s.pt.listenIn ∧ (drawerRestart s).pt.wallLimit = s.pt.wallLimit ∧
    (drawerRestart s).pt.quietEnded = s.pt.quietEnded ∧ (drawerRestart s).pt.stuckSeen = s.pt.stuckSeen ∧
    (drawerRestart s).pt.statusTimer = s.pt.statusTimer ∧ (drawerRestart s).biu.slow = s.biu.slow ∧ (drawerRestart
    s).biu.attempt = s.biu.attempt ∧ (drawerRestart s).biu.lastOutcome = s.biu.lastOutcome ∧ (drawerRestart
    s).biu.alarmFlag = s.biu.alarmFlag ∧ (drawerRestart s).biu.statusFlag = s.biu.statusFlag ∧ (drawerRestart
    s).biu.voidCount = s.biu.voidCount ∧ (drawerRestart s).biu.quiet = s.biu.quiet ∧ (drawerRestart s).biu.stuck =
    s.biu.stuck ∧ (drawerRestart s).biu.broken = s.biu.broken ∧ (drawerRestart s).cmd.owner = s.cmd.owner ∧
    (drawerRestart s).cmd.acked = s.cmd.acked ∧ (drawerRestart s).lsv.station = s.lsv.station ∧ (drawerRestart
    s).lsv.stage = s.lsv.stage ∧ (drawerRestart s).lsv.transportDone = s.lsv.transportDone ∧ (drawerRestart
    s).lsv.gotLane = s.lsv.gotLane ∧ (drawerRestart s).lsv.gotBins = s.lsv.gotBins ∧ (drawerRestart
    s).lsv.serviceTimer = s.lsv.serviceTimer ∧ (drawerRestart s).lsv.heldRestarts = s.lsv.heldRestarts := by
  unfold drawerRestart
  dsimp only
  (repeat' split) <;> simp

/-- The replies of held restarts change nothing but the positions of the FIFO. -/
theorem foldl_fillFrame (l : List (Station × Byte)) (g : Station × Byte → OutFrame) (s : State) :
    l.foldl (fun s r => fillFrame .restart (g r) s) s
      = { s with biu.fifo := (l.foldl (fun s r => fillFrame .restart (g r) s) s).biu.fifo } := by
  induction l generalizing s with
  | nil => rfl
  | cons r l ih => simp only [List.foldl_cons]; rw [ih]; simp [fillFrame]

@[simp] theorem answerRestarts_keeps (s : State) :
    (answerRestarts s).cas = s.cas ∧ (answerRestarts s).ntg = s.ntg ∧ (answerRestarts s).dsp = s.dsp ∧ (answerRestarts
    s).drw = s.drw ∧ (answerRestarts s).ink = s.ink ∧ (answerRestarts s).pkt = s.pkt ∧ (answerRestarts s).pt = s.pt ∧
    (answerRestarts s).alm = s.alm ∧ (answerRestarts s).cmd = s.cmd ∧ (answerRestarts s).lines = s.lines ∧
    (answerRestarts s).outputs = s.outputs ∧ (answerRestarts s).pending = s.pending ∧ (answerRestarts s).biu.slow =
    s.biu.slow ∧ (answerRestarts s).biu.attempt = s.biu.attempt ∧ (answerRestarts s).biu.lastOutcome =
    s.biu.lastOutcome ∧ (answerRestarts s).biu.alarmFlag = s.biu.alarmFlag ∧ (answerRestarts s).biu.wallQueue =
    s.biu.wallQueue ∧ (answerRestarts s).biu.statusFlag = s.biu.statusFlag ∧ (answerRestarts s).biu.voidCount =
    s.biu.voidCount ∧ (answerRestarts s).biu.quiet = s.biu.quiet ∧ (answerRestarts s).biu.stuck = s.biu.stuck ∧
    (answerRestarts s).biu.broken = s.biu.broken ∧ (answerRestarts s).lsv.lane = s.lsv.lane ∧ (answerRestarts
    s).lsv.station = s.lsv.station ∧ (answerRestarts s).lsv.stage = s.lsv.stage ∧ (answerRestarts s).lsv.transportDone
    = s.lsv.transportDone ∧ (answerRestarts s).lsv.gotLane = s.lsv.gotLane ∧ (answerRestarts s).lsv.gotBins =
    s.lsv.gotBins ∧ (answerRestarts s).lsv.serviceTimer = s.lsv.serviceTimer ∧ (answerRestarts s).lsv.heldFault =
    s.lsv.heldFault := by
  unfold answerRestarts
  rw [foldl_fillFrame]
  simp

@[simp] theorem restartTail_keeps (s : State) :
    (restartTail s).cas = s.cas ∧ (restartTail s).lines = s.lines ∧ (restartTail s).outputs = s.outputs ∧ (restartTail
    s).pending = s.pending ∧ (restartTail s).ink.raster = s.ink.raster ∧ (restartTail s).ink.fieldPage =
    s.ink.fieldPage ∧ (restartTail s).ink.fieldCol = s.ink.fieldCol ∧ (restartTail s).ink.energy = s.ink.energy ∧
    (restartTail s).ink.mirror = s.ink.mirror ∧ (restartTail s).ink.sensor = s.ink.sensor ∧ (restartTail s).pkt.gate =
    s.pkt.gate ∧ (restartTail s).pkt.fairness = s.pkt.fairness ∧ (restartTail s).pkt.capacity = s.pkt.capacity ∧
    (restartTail s).pt.view = s.pt.view ∧ (restartTail s).pt.wallLimit = s.pt.wallLimit ∧ (restartTail
    s).pt.quietEnded = s.pt.quietEnded ∧ (restartTail s).pt.stuckSeen = s.pt.stuckSeen ∧ (restartTail
    s).pt.statusTimer = s.pt.statusTimer ∧ (restartTail s).alm.loops = s.alm.loops ∧ (restartTail s).biu.slow =
    s.biu.slow ∧ (restartTail s).biu.attempt = s.biu.attempt ∧ (restartTail s).biu.lastOutcome = s.biu.lastOutcome ∧
    (restartTail s).biu.statusFlag = s.biu.statusFlag ∧ (restartTail s).biu.voidCount = s.biu.voidCount ∧ (restartTail
    s).biu.quiet = s.biu.quiet ∧ (restartTail s).biu.stuck = s.biu.stuck ∧ (restartTail s).biu.broken = s.biu.broken ∧
    (restartTail s).cmd.acked = s.cmd.acked ∧ (restartTail s).lsv.station = s.lsv.station ∧ (restartTail
    s).lsv.gotLane = s.lsv.gotLane ∧ (restartTail s).lsv.gotBins = s.lsv.gotBins := by
  unfold restartTail
  dsimp only
  (repeat' split) <;> simp

@[simp] theorem restart_keeps (s : State) :
    (restart s).cas = s.cas ∧ (restart s).lines = s.lines ∧ (restart s).outputs = s.outputs ∧ (restart s).pending =
    s.pending ∧ (restart s).ink.raster = s.ink.raster ∧ (restart s).ink.fieldPage = s.ink.fieldPage ∧ (restart
    s).ink.fieldCol = s.ink.fieldCol ∧ (restart s).ink.energy = s.ink.energy ∧ (restart s).ink.mirror = s.ink.mirror ∧
    (restart s).ink.sensor = s.ink.sensor ∧ (restart s).pkt.gate = s.pkt.gate ∧ (restart s).pkt.fairness =
    s.pkt.fairness ∧ (restart s).pkt.capacity = s.pkt.capacity ∧ (restart s).pt.view = s.pt.view ∧ (restart
    s).pt.wallLimit = s.pt.wallLimit ∧ (restart s).pt.quietEnded = s.pt.quietEnded ∧ (restart s).pt.stuckSeen =
    s.pt.stuckSeen ∧ (restart s).pt.statusTimer = s.pt.statusTimer ∧ (restart s).alm.loops = s.alm.loops ∧ (restart
    s).biu.slow = s.biu.slow ∧ (restart s).biu.attempt = s.biu.attempt ∧ (restart s).biu.lastOutcome =
    s.biu.lastOutcome ∧ (restart s).biu.statusFlag = s.biu.statusFlag ∧ (restart s).biu.voidCount = s.biu.voidCount ∧
    (restart s).biu.quiet = s.biu.quiet ∧ (restart s).biu.stuck = s.biu.stuck ∧ (restart s).biu.broken = s.biu.broken
    ∧ (restart s).cmd.acked = s.cmd.acked ∧ (restart s).lsv.station = s.lsv.station ∧ (restart s).lsv.gotLane =
    s.lsv.gotLane ∧ (restart s).lsv.gotBins = s.lsv.gotBins := by
  unfold restart
  dsimp only
  (repeat' split) <;> simp

@[simp] theorem reserveOutcome_keeps (o : ReserveOutcome) (s : State) :
    (reserveOutcome o s).cas = s.cas ∧ (reserveOutcome o s).lines = s.lines ∧ (reserveOutcome o s).outputs = s.outputs
    ∧ (reserveOutcome o s).pending = s.pending ∧ (reserveOutcome o s).ink.raster = s.ink.raster ∧ (reserveOutcome o
    s).ink.fieldPage = s.ink.fieldPage ∧ (reserveOutcome o s).ink.fieldCol = s.ink.fieldCol ∧ (reserveOutcome o
    s).ink.energy = s.ink.energy ∧ (reserveOutcome o s).ink.mirror = s.ink.mirror ∧ (reserveOutcome o s).ink.sensor =
    s.ink.sensor ∧ (reserveOutcome o s).pkt.gate = s.pkt.gate ∧ (reserveOutcome o s).pkt.fairness = s.pkt.fairness ∧
    (reserveOutcome o s).pkt.capacity = s.pkt.capacity ∧ (reserveOutcome o s).pt.view = s.pt.view ∧ (reserveOutcome o
    s).pt.wallLimit = s.pt.wallLimit ∧ (reserveOutcome o s).pt.quietEnded = s.pt.quietEnded ∧ (reserveOutcome o
    s).pt.stuckSeen = s.pt.stuckSeen ∧ (reserveOutcome o s).pt.statusTimer = s.pt.statusTimer ∧ (reserveOutcome o
    s).alm.loops = s.alm.loops ∧ (reserveOutcome o s).biu.slow = s.biu.slow ∧ (reserveOutcome o s).biu.attempt =
    s.biu.attempt ∧ (reserveOutcome o s).biu.lastOutcome = s.biu.lastOutcome ∧ (reserveOutcome o s).biu.statusFlag =
    s.biu.statusFlag ∧ (reserveOutcome o s).biu.voidCount = s.biu.voidCount ∧ (reserveOutcome o s).biu.quiet =
    s.biu.quiet ∧ (reserveOutcome o s).biu.stuck = s.biu.stuck ∧ (reserveOutcome o s).biu.broken = s.biu.broken ∧
    (reserveOutcome o s).cmd.acked = s.cmd.acked ∧ (reserveOutcome o s).lsv.station = s.lsv.station ∧ (reserveOutcome
    o s).lsv.gotLane = s.lsv.gotLane ∧ (reserveOutcome o s).lsv.gotBins = s.lsv.gotBins := by
  unfold reserveOutcome
  dsimp only
  (repeat' split) <;> simp

@[simp] theorem reserveLost_keeps (s : State) :
    (reserveLost s).cas = s.cas ∧ (reserveLost s).lines = s.lines ∧ (reserveLost s).outputs = s.outputs ∧ (reserveLost
    s).pending = s.pending ∧ (reserveLost s).ink.raster = s.ink.raster ∧ (reserveLost s).ink.fieldPage =
    s.ink.fieldPage ∧ (reserveLost s).ink.fieldCol = s.ink.fieldCol ∧ (reserveLost s).ink.energy = s.ink.energy ∧
    (reserveLost s).ink.mirror = s.ink.mirror ∧ (reserveLost s).ink.sensor = s.ink.sensor ∧ (reserveLost s).pkt.gate =
    s.pkt.gate ∧ (reserveLost s).pkt.fairness = s.pkt.fairness ∧ (reserveLost s).pkt.capacity = s.pkt.capacity ∧
    (reserveLost s).pt.view = s.pt.view ∧ (reserveLost s).pt.wallLimit = s.pt.wallLimit ∧ (reserveLost
    s).pt.quietEnded = s.pt.quietEnded ∧ (reserveLost s).pt.stuckSeen = s.pt.stuckSeen ∧ (reserveLost
    s).pt.statusTimer = s.pt.statusTimer ∧ (reserveLost s).alm.loops = s.alm.loops ∧ (reserveLost s).biu.slow =
    s.biu.slow ∧ (reserveLost s).biu.attempt = s.biu.attempt ∧ (reserveLost s).biu.lastOutcome = s.biu.lastOutcome ∧
    (reserveLost s).biu.statusFlag = s.biu.statusFlag ∧ (reserveLost s).biu.voidCount = s.biu.voidCount ∧ (reserveLost
    s).biu.quiet = s.biu.quiet ∧ (reserveLost s).biu.stuck = s.biu.stuck ∧ (reserveLost s).biu.broken = s.biu.broken ∧
    (reserveLost s).cmd.acked = s.cmd.acked ∧ (reserveLost s).lsv.station = s.lsv.station ∧ (reserveLost
    s).lsv.gotLane = s.lsv.gotLane ∧ (reserveLost s).lsv.gotBins = s.lsv.gotBins := by
  unfold reserveLost
  dsimp only
  (repeat' split) <;> simp

@[simp] theorem statusHolder_keeps (source : Station) (holds : Bool) (s : State) :
    (statusHolder source holds s).cas = s.cas ∧ (statusHolder source holds s).ntg = s.ntg ∧ (statusHolder source holds
    s).dsp = s.dsp ∧ (statusHolder source holds s).drw = s.drw ∧ (statusHolder source holds s).ink = s.ink ∧
    (statusHolder source holds s).pkt = s.pkt ∧ (statusHolder source holds s).alm = s.alm ∧ (statusHolder source holds
    s).biu = s.biu ∧ (statusHolder source holds s).cmd = s.cmd ∧ (statusHolder source holds s).lsv = s.lsv ∧
    (statusHolder source holds s).lines = s.lines ∧ (statusHolder source holds s).outputs = s.outputs ∧ (statusHolder
    source holds s).pending = s.pending ∧ (statusHolder source holds s).pt.view = s.pt.view ∧ (statusHolder source
    holds s).pt.listenIn = s.pt.listenIn ∧ (statusHolder source holds s).pt.wallLimit = s.pt.wallLimit ∧ (statusHolder
    source holds s).pt.quietEnded = s.pt.quietEnded ∧ (statusHolder source holds s).pt.stuckSeen = s.pt.stuckSeen ∧
    (statusHolder source holds s).pt.statusTimer = s.pt.statusTimer := by
  simp only [statusHolder]; (repeat' split) <;> simp

@[simp] theorem statusView_keeps (payload : List Byte) (s : State) :
    (statusView payload s).cas = s.cas ∧ (statusView payload s).ntg = s.ntg ∧ (statusView payload s).dsp = s.dsp ∧
    (statusView payload s).drw = s.drw ∧ (statusView payload s).ink = s.ink ∧ (statusView payload s).pkt = s.pkt ∧
    (statusView payload s).alm = s.alm ∧ (statusView payload s).biu = s.biu ∧ (statusView payload s).cmd = s.cmd ∧
    (statusView payload s).lsv = s.lsv ∧ (statusView payload s).lines = s.lines ∧ (statusView payload s).outputs =
    s.outputs ∧ (statusView payload s).pending = s.pending ∧ (statusView payload s).pt.peers = s.pt.peers ∧
    (statusView payload s).pt.listenIn = s.pt.listenIn ∧ (statusView payload s).pt.wallLimit = s.pt.wallLimit ∧
    (statusView payload s).pt.quietEnded = s.pt.quietEnded ∧ (statusView payload s).pt.stuckSeen = s.pt.stuckSeen ∧
    (statusView payload s).pt.statusTimer = s.pt.statusTimer := by
  unfold statusView
  dsimp only
  (repeat' split) <;> simp

@[simp] theorem onStatus_keeps (source : Station) (payload : List Byte) (s : State) :
    (onStatus source payload s).cas = s.cas ∧ (onStatus source payload s).ink = s.ink ∧ (onStatus source payload
    s).pkt = s.pkt ∧ (onStatus source payload s).lsv = s.lsv ∧ (onStatus source payload s).lines = s.lines ∧ (onStatus
    source payload s).outputs = s.outputs ∧ (onStatus source payload s).pending = s.pending ∧ (onStatus source payload
    s).pt.listenIn = s.pt.listenIn ∧ (onStatus source payload s).pt.wallLimit = s.pt.wallLimit ∧ (onStatus source
    payload s).pt.quietEnded = s.pt.quietEnded ∧ (onStatus source payload s).pt.stuckSeen = s.pt.stuckSeen ∧ (onStatus
    source payload s).pt.statusTimer = s.pt.statusTimer ∧ (onStatus source payload s).alm.loops = s.alm.loops ∧
    (onStatus source payload s).alm.latch = s.alm.latch ∧ (onStatus source payload s).alm.serviceWindow =
    s.alm.serviceWindow ∧ (onStatus source payload s).alm.siren = s.alm.siren ∧ (onStatus source payload
    s).alm.sirenTimer = s.alm.sirenTimer ∧ (onStatus source payload s).alm.sirenOn = s.alm.sirenOn ∧ (onStatus source
    payload s).alm.sirenToggle = s.alm.sirenToggle ∧ (onStatus source payload s).alm.relay = s.alm.relay ∧ (onStatus
    source payload s).alm.latchChanged = s.alm.latchChanged ∧ (onStatus source payload s).biu.slow = s.biu.slow ∧
    (onStatus source payload s).biu.attempt = s.biu.attempt ∧ (onStatus source payload s).biu.lastOutcome =
    s.biu.lastOutcome ∧ (onStatus source payload s).biu.alarmFlag = s.biu.alarmFlag ∧ (onStatus source payload
    s).biu.statusFlag = s.biu.statusFlag ∧ (onStatus source payload s).biu.voidCount = s.biu.voidCount ∧ (onStatus
    source payload s).biu.quiet = s.biu.quiet ∧ (onStatus source payload s).biu.stuck = s.biu.stuck ∧ (onStatus source
    payload s).biu.broken = s.biu.broken ∧ (onStatus source payload s).cmd.owner = s.cmd.owner ∧ (onStatus source
    payload s).cmd.acked = s.cmd.acked := by
  simp only [onStatus]; (repeat' split) <;> simp

@[simp] theorem onAlarm_keeps (source : Station) (payload : List Byte) (s : State) :
    (onAlarm source payload s).cas = s.cas ∧ (onAlarm source payload s).ink = s.ink ∧ (onAlarm source payload s).pkt =
    s.pkt ∧ (onAlarm source payload s).lsv = s.lsv ∧ (onAlarm source payload s).lines = s.lines ∧ (onAlarm source
    payload s).outputs = s.outputs ∧ (onAlarm source payload s).pending = s.pending ∧ (onAlarm source payload
    s).pt.view = s.pt.view ∧ (onAlarm source payload s).pt.listenIn = s.pt.listenIn ∧ (onAlarm source payload
    s).pt.wallLimit = s.pt.wallLimit ∧ (onAlarm source payload s).pt.quietEnded = s.pt.quietEnded ∧ (onAlarm source
    payload s).pt.stuckSeen = s.pt.stuckSeen ∧ (onAlarm source payload s).pt.statusTimer = s.pt.statusTimer ∧ (onAlarm
    source payload s).alm.loops = s.alm.loops ∧ (onAlarm source payload s).alm.latch = s.alm.latch ∧ (onAlarm source
    payload s).alm.serviceWindow = s.alm.serviceWindow ∧ (onAlarm source payload s).alm.siren = s.alm.siren ∧ (onAlarm
    source payload s).alm.sirenTimer = s.alm.sirenTimer ∧ (onAlarm source payload s).alm.sirenOn = s.alm.sirenOn ∧
    (onAlarm source payload s).alm.sirenToggle = s.alm.sirenToggle ∧ (onAlarm source payload s).alm.relay =
    s.alm.relay ∧ (onAlarm source payload s).alm.latchChanged = s.alm.latchChanged ∧ (onAlarm source payload
    s).biu.slow = s.biu.slow ∧ (onAlarm source payload s).biu.attempt = s.biu.attempt ∧ (onAlarm source payload
    s).biu.lastOutcome = s.biu.lastOutcome ∧ (onAlarm source payload s).biu.alarmFlag = s.biu.alarmFlag ∧ (onAlarm
    source payload s).biu.statusFlag = s.biu.statusFlag ∧ (onAlarm source payload s).biu.voidCount = s.biu.voidCount ∧
    (onAlarm source payload s).biu.quiet = s.biu.quiet ∧ (onAlarm source payload s).biu.stuck = s.biu.stuck ∧ (onAlarm
    source payload s).biu.broken = s.biu.broken ∧ (onAlarm source payload s).cmd.owner = s.cmd.owner ∧ (onAlarm source
    payload s).cmd.acked = s.cmd.acked := by
  simp only [onAlarm]; (repeat' split) <;> simp

@[simp] theorem onReserve_keeps (source : Station) (payload : List Byte) (s : State) :
    (onReserve source payload s).cas = s.cas ∧ (onReserve source payload s).ntg = s.ntg ∧ (onReserve source payload
    s).dsp = s.dsp ∧ (onReserve source payload s).drw = s.drw ∧ (onReserve source payload s).ink = s.ink ∧ (onReserve
    source payload s).pkt = s.pkt ∧ (onReserve source payload s).alm = s.alm ∧ (onReserve source payload s).biu =
    s.biu ∧ (onReserve source payload s).cmd = s.cmd ∧ (onReserve source payload s).lsv = s.lsv ∧ (onReserve source
    payload s).lines = s.lines ∧ (onReserve source payload s).outputs = s.outputs ∧ (onReserve source payload
    s).pending = s.pending ∧ (onReserve source payload s).pt.view = s.pt.view ∧ (onReserve source payload
    s).pt.listenIn = s.pt.listenIn ∧ (onReserve source payload s).pt.wallLimit = s.pt.wallLimit ∧ (onReserve source
    payload s).pt.quietEnded = s.pt.quietEnded ∧ (onReserve source payload s).pt.stuckSeen = s.pt.stuckSeen ∧
    (onReserve source payload s).pt.statusTimer = s.pt.statusTimer := by
  simp only [onReserve]; (repeat' split) <;> simp

@[simp] theorem onRelease_keeps (source : Station) (payload : List Byte) (s : State) :
    (onRelease source payload s).cas = s.cas ∧ (onRelease source payload s).ntg = s.ntg ∧ (onRelease source payload
    s).dsp = s.dsp ∧ (onRelease source payload s).drw = s.drw ∧ (onRelease source payload s).ink = s.ink ∧ (onRelease
    source payload s).pkt = s.pkt ∧ (onRelease source payload s).alm = s.alm ∧ (onRelease source payload s).biu =
    s.biu ∧ (onRelease source payload s).cmd = s.cmd ∧ (onRelease source payload s).lsv = s.lsv ∧ (onRelease source
    payload s).lines = s.lines ∧ (onRelease source payload s).outputs = s.outputs ∧ (onRelease source payload
    s).pending = s.pending ∧ (onRelease source payload s).pt.view = s.pt.view ∧ (onRelease source payload
    s).pt.listenIn = s.pt.listenIn ∧ (onRelease source payload s).pt.wallLimit = s.pt.wallLimit ∧ (onRelease source
    payload s).pt.quietEnded = s.pt.quietEnded ∧ (onRelease source payload s).pt.stuckSeen = s.pt.stuckSeen ∧
    (onRelease source payload s).pt.statusTimer = s.pt.statusTimer := by
  simp only [onRelease]; (repeat' split) <;> simp

@[simp] theorem onClaim_keeps (source : Station) (payload : List Byte) (s : State) :
    (onClaim source payload s).cas = s.cas ∧ (onClaim source payload s).ntg = s.ntg ∧ (onClaim source payload s).dsp =
    s.dsp ∧ (onClaim source payload s).drw = s.drw ∧ (onClaim source payload s).ink = s.ink ∧ (onClaim source payload
    s).alm = s.alm ∧ (onClaim source payload s).biu = s.biu ∧ (onClaim source payload s).cmd = s.cmd ∧ (onClaim source
    payload s).lsv = s.lsv ∧ (onClaim source payload s).lines = s.lines ∧ (onClaim source payload s).outputs =
    s.outputs ∧ (onClaim source payload s).pending = s.pending ∧ (onClaim source payload s).pkt.pocket = s.pkt.pocket
    ∧ (onClaim source payload s).pkt.chute = s.pkt.chute ∧ (onClaim source payload s).pkt.gate = s.pkt.gate ∧ (onClaim
    source payload s).pkt.capacity = s.pkt.capacity ∧ (onClaim source payload s).pt.view = s.pt.view ∧ (onClaim source
    payload s).pt.listenIn = s.pt.listenIn ∧ (onClaim source payload s).pt.wallLimit = s.pt.wallLimit ∧ (onClaim
    source payload s).pt.quietEnded = s.pt.quietEnded ∧ (onClaim source payload s).pt.stuckSeen = s.pt.stuckSeen ∧
    (onClaim source payload s).pt.statusTimer = s.pt.statusTimer := by
  unfold onClaim
  dsimp only
  (repeat' split) <;> simp

@[simp] theorem onChuteRelease_keeps (source : Station) (payload : List Byte) (s : State) :
    (onChuteRelease source payload s).cas = s.cas ∧ (onChuteRelease source payload s).ntg = s.ntg ∧ (onChuteRelease
    source payload s).dsp = s.dsp ∧ (onChuteRelease source payload s).drw = s.drw ∧ (onChuteRelease source payload
    s).ink = s.ink ∧ (onChuteRelease source payload s).pkt = s.pkt ∧ (onChuteRelease source payload s).alm = s.alm ∧
    (onChuteRelease source payload s).biu = s.biu ∧ (onChuteRelease source payload s).cmd = s.cmd ∧ (onChuteRelease
    source payload s).lsv = s.lsv ∧ (onChuteRelease source payload s).lines = s.lines ∧ (onChuteRelease source payload
    s).outputs = s.outputs ∧ (onChuteRelease source payload s).pending = s.pending ∧ (onChuteRelease source payload
    s).pt.listenIn = s.pt.listenIn ∧ (onChuteRelease source payload s).pt.wallLimit = s.pt.wallLimit ∧ (onChuteRelease
    source payload s).pt.quietEnded = s.pt.quietEnded ∧ (onChuteRelease source payload s).pt.stuckSeen =
    s.pt.stuckSeen ∧ (onChuteRelease source payload s).pt.statusTimer = s.pt.statusTimer := by
  simp only [onChuteRelease]; (repeat' split) <;> simp

@[simp] theorem onBinEmptied_keeps (source : Station) (payload : List Byte) (s : State) :
    (onBinEmptied source payload s).cas = s.cas ∧ (onBinEmptied source payload s).ntg = s.ntg ∧ (onBinEmptied source
    payload s).dsp = s.dsp ∧ (onBinEmptied source payload s).drw = s.drw ∧ (onBinEmptied source payload s).ink = s.ink
    ∧ (onBinEmptied source payload s).pkt = s.pkt ∧ (onBinEmptied source payload s).alm = s.alm ∧ (onBinEmptied source
    payload s).biu = s.biu ∧ (onBinEmptied source payload s).cmd = s.cmd ∧ (onBinEmptied source payload s).lsv = s.lsv
    ∧ (onBinEmptied source payload s).lines = s.lines ∧ (onBinEmptied source payload s).outputs = s.outputs ∧
    (onBinEmptied source payload s).pending = s.pending ∧ (onBinEmptied source payload s).pt.peers = s.pt.peers ∧
    (onBinEmptied source payload s).pt.listenIn = s.pt.listenIn ∧ (onBinEmptied source payload s).pt.wallLimit =
    s.pt.wallLimit ∧ (onBinEmptied source payload s).pt.quietEnded = s.pt.quietEnded ∧ (onBinEmptied source payload
    s).pt.stuckSeen = s.pt.stuckSeen ∧ (onBinEmptied source payload s).pt.statusTimer = s.pt.statusTimer := by
  unfold onBinEmptied
  dsimp only
  (repeat' split) <;> simp

@[simp] theorem onForget_keeps (source : Station) (payload : List Byte) (s : State) :
    (onForget source payload s).cas = s.cas ∧ (onForget source payload s).ink = s.ink ∧ (onForget source payload
    s).pkt = s.pkt ∧ (onForget source payload s).lsv = s.lsv ∧ (onForget source payload s).lines = s.lines ∧ (onForget
    source payload s).outputs = s.outputs ∧ (onForget source payload s).pending = s.pending ∧ (onForget source payload
    s).pt.view = s.pt.view ∧ (onForget source payload s).pt.listenIn = s.pt.listenIn ∧ (onForget source payload
    s).pt.wallLimit = s.pt.wallLimit ∧ (onForget source payload s).pt.quietEnded = s.pt.quietEnded ∧ (onForget source
    payload s).pt.stuckSeen = s.pt.stuckSeen ∧ (onForget source payload s).pt.statusTimer = s.pt.statusTimer ∧
    (onForget source payload s).alm.loops = s.alm.loops ∧ (onForget source payload s).alm.latch = s.alm.latch ∧
    (onForget source payload s).alm.serviceWindow = s.alm.serviceWindow ∧ (onForget source payload s).alm.siren =
    s.alm.siren ∧ (onForget source payload s).alm.sirenTimer = s.alm.sirenTimer ∧ (onForget source payload
    s).alm.sirenOn = s.alm.sirenOn ∧ (onForget source payload s).alm.sirenToggle = s.alm.sirenToggle ∧ (onForget
    source payload s).alm.relay = s.alm.relay ∧ (onForget source payload s).alm.latchChanged = s.alm.latchChanged ∧
    (onForget source payload s).biu.slow = s.biu.slow ∧ (onForget source payload s).biu.attempt = s.biu.attempt ∧
    (onForget source payload s).biu.lastOutcome = s.biu.lastOutcome ∧ (onForget source payload s).biu.alarmFlag =
    s.biu.alarmFlag ∧ (onForget source payload s).biu.statusFlag = s.biu.statusFlag ∧ (onForget source payload
    s).biu.voidCount = s.biu.voidCount ∧ (onForget source payload s).biu.quiet = s.biu.quiet ∧ (onForget source
    payload s).biu.stuck = s.biu.stuck ∧ (onForget source payload s).biu.broken = s.biu.broken ∧ (onForget source
    payload s).cmd.owner = s.cmd.owner ∧ (onForget source payload s).cmd.acked = s.cmd.acked := by
  unfold onForget
  dsimp only
  (repeat' split) <;> simp

@[simp] theorem reserveCheck_keeps (amount : Nat) (s : State) :
    (reserveCheck amount s).1.cas = s.cas ∧ (reserveCheck amount s).1.ntg = s.ntg ∧ (reserveCheck amount s).1.dsp =
    s.dsp ∧ (reserveCheck amount s).1.drw = s.drw ∧ (reserveCheck amount s).1.ink = s.ink ∧ (reserveCheck amount
    s).1.pkt = s.pkt ∧ (reserveCheck amount s).1.alm = s.alm ∧ (reserveCheck amount s).1.biu = s.biu ∧ (reserveCheck
    amount s).1.cmd = s.cmd ∧ (reserveCheck amount s).1.lsv = s.lsv ∧ (reserveCheck amount s).1.lines = s.lines ∧
    (reserveCheck amount s).1.outputs = s.outputs ∧ (reserveCheck amount s).1.pending = s.pending ∧ (reserveCheck
    amount s).1.pt.view = s.pt.view ∧ (reserveCheck amount s).1.pt.listenIn = s.pt.listenIn ∧ (reserveCheck amount
    s).1.pt.wallLimit = s.pt.wallLimit ∧ (reserveCheck amount s).1.pt.quietEnded = s.pt.quietEnded ∧ (reserveCheck
    amount s).1.pt.stuckSeen = s.pt.stuckSeen ∧ (reserveCheck amount s).1.pt.statusTimer = s.pt.statusTimer := by
  unfold reserveCheck
  dsimp only
  (repeat' split) <;> simp

@[simp] theorem statusEnded_keeps (s : State) :
    (statusEnded s).cas = s.cas ∧ (statusEnded s).ntg = s.ntg ∧ (statusEnded s).dsp = s.dsp ∧ (statusEnded s).drw =
    s.drw ∧ (statusEnded s).ink = s.ink ∧ (statusEnded s).pkt = s.pkt ∧ (statusEnded s).alm = s.alm ∧ (statusEnded
    s).cmd = s.cmd ∧ (statusEnded s).lsv = s.lsv ∧ (statusEnded s).lines = s.lines ∧ (statusEnded s).outputs =
    s.outputs ∧ (statusEnded s).pending = s.pending ∧ (statusEnded s).pt.peers = s.pt.peers ∧ (statusEnded s).pt.view
    = s.pt.view ∧ (statusEnded s).pt.listenIn = s.pt.listenIn ∧ (statusEnded s).pt.wallLimit = s.pt.wallLimit ∧
    (statusEnded s).pt.quietEnded = s.pt.quietEnded ∧ (statusEnded s).pt.stuckSeen = s.pt.stuckSeen ∧ (statusEnded
    s).biu.slow = s.biu.slow ∧ (statusEnded s).biu.attempt = s.biu.attempt ∧ (statusEnded s).biu.lastOutcome =
    s.biu.lastOutcome ∧ (statusEnded s).biu.alarmFlag = s.biu.alarmFlag ∧ (statusEnded s).biu.wallQueue =
    s.biu.wallQueue ∧ (statusEnded s).biu.fifo = s.biu.fifo ∧ (statusEnded s).biu.voidCount = s.biu.voidCount ∧
    (statusEnded s).biu.quiet = s.biu.quiet ∧ (statusEnded s).biu.stuck = s.biu.stuck ∧ (statusEnded s).biu.broken =
    s.biu.broken := by
  simp [statusEnded]

@[simp] theorem startAttempt_keeps (item : OfferItem) (s : State) :
    (startAttempt item s).cas = s.cas ∧ (startAttempt item s).ntg = s.ntg ∧ (startAttempt item s).dsp = s.dsp ∧
    (startAttempt item s).drw = s.drw ∧ (startAttempt item s).ink = s.ink ∧ (startAttempt item s).pkt = s.pkt ∧
    (startAttempt item s).pt = s.pt ∧ (startAttempt item s).alm = s.alm ∧ (startAttempt item s).cmd = s.cmd ∧
    (startAttempt item s).lsv = s.lsv ∧ (startAttempt item s).lines = s.lines ∧ (startAttempt item s).outputs =
    s.outputs ∧ (startAttempt item s).pending = s.pending ∧ (startAttempt item s).biu.slow = s.biu.slow ∧
    (startAttempt item s).biu.lastOutcome = s.biu.lastOutcome ∧ (startAttempt item s).biu.alarmFlag = s.biu.alarmFlag
    ∧ (startAttempt item s).biu.wallQueue = s.biu.wallQueue ∧ (startAttempt item s).biu.fifo = s.biu.fifo ∧
    (startAttempt item s).biu.statusFlag = s.biu.statusFlag ∧ (startAttempt item s).biu.voidCount = s.biu.voidCount ∧
    (startAttempt item s).biu.quiet = s.biu.quiet ∧ (startAttempt item s).biu.stuck = s.biu.stuck ∧ (startAttempt item
    s).biu.broken = s.biu.broken := by
  simp [startAttempt]

/-- The turn of the wall queue changes nothing but the chute state and the queue. -/
theorem wallTurn_snd (l : List WallItem) (s : State) :
    (wallTurn l s).2 = { s with pkt.chute := (wallTurn l s).2.pkt.chute, biu.wallQueue := (wallTurn l s).2.biu.wallQueue } := by
  induction l generalizing s with
  | nil => rfl
  | cons i l ih =>
    cases i <;> try rfl
    unfold wallTurn
    split
    · rw [ih]; simp [dropWall]
    · rfl

@[simp] theorem offer_keeps (s : State) :
    (offer s).cas = s.cas ∧ (offer s).ntg = s.ntg ∧ (offer s).dsp = s.dsp ∧ (offer s).drw = s.drw ∧ (offer s).ink =
    s.ink ∧ (offer s).pt = s.pt ∧ (offer s).cmd = s.cmd ∧ (offer s).lsv = s.lsv ∧ (offer s).lines = s.lines ∧ (offer
    s).outputs = s.outputs ∧ (offer s).pending = s.pending ∧ (offer s).biu.slow = s.biu.slow ∧ (offer
    s).biu.lastOutcome = s.biu.lastOutcome ∧ (offer s).biu.alarmFlag = s.biu.alarmFlag ∧ (offer s).biu.fifo =
    s.biu.fifo ∧ (offer s).biu.statusFlag = s.biu.statusFlag ∧ (offer s).biu.voidCount = s.biu.voidCount ∧ (offer
    s).biu.quiet = s.biu.quiet ∧ (offer s).biu.stuck = s.biu.stuck ∧ (offer s).biu.broken = s.biu.broken ∧ (offer
    s).pkt.pocket = s.pkt.pocket ∧ (offer s).pkt.gate = s.pkt.gate ∧ (offer s).pkt.fairness = s.pkt.fairness ∧ (offer
    s).pkt.capacity = s.pkt.capacity ∧ (offer s).alm.loops = s.alm.loops ∧ (offer s).alm.latch = s.alm.latch ∧ (offer
    s).alm.wall = s.alm.wall ∧ (offer s).alm.serviceWindow = s.alm.serviceWindow ∧ (offer s).alm.siren = s.alm.siren ∧
    (offer s).alm.sirenTimer = s.alm.sirenTimer ∧ (offer s).alm.sirenOn = s.alm.sirenOn ∧ (offer s).alm.sirenToggle =
    s.alm.sirenToggle ∧ (offer s).alm.relay = s.alm.relay := by
  unfold offer
  dsimp only
  (repeat' split) <;> first | (simp; done) | (rw [wallTurn_snd]; simp)

@[simp] theorem attemptCompleted_keeps (heard : Bool) (s : State) :
    (attemptCompleted heard s).cas = s.cas ∧ (attemptCompleted heard s).ntg = s.ntg ∧ (attemptCompleted heard s).dsp =
    s.dsp ∧ (attemptCompleted heard s).drw = s.drw ∧ (attemptCompleted heard s).ink = s.ink ∧ (attemptCompleted heard
    s).pkt = s.pkt ∧ (attemptCompleted heard s).alm = s.alm ∧ (attemptCompleted heard s).cmd = s.cmd ∧
    (attemptCompleted heard s).lsv = s.lsv ∧ (attemptCompleted heard s).lines = s.lines ∧ (attemptCompleted heard
    s).outputs = s.outputs ∧ (attemptCompleted heard s).pending = s.pending ∧ (attemptCompleted heard s).pt.view =
    s.pt.view ∧ (attemptCompleted heard s).pt.listenIn = s.pt.listenIn ∧ (attemptCompleted heard s).pt.wallLimit =
    s.pt.wallLimit ∧ (attemptCompleted heard s).pt.quietEnded = s.pt.quietEnded ∧ (attemptCompleted heard
    s).pt.stuckSeen = s.pt.stuckSeen ∧ (attemptCompleted heard s).pt.statusTimer = s.pt.statusTimer ∧
    (attemptCompleted heard s).biu.slow = s.biu.slow ∧ (attemptCompleted heard s).biu.alarmFlag = s.biu.alarmFlag ∧
    (attemptCompleted heard s).biu.wallQueue = s.biu.wallQueue ∧ (attemptCompleted heard s).biu.fifo = s.biu.fifo ∧
    (attemptCompleted heard s).biu.statusFlag = s.biu.statusFlag ∧ (attemptCompleted heard s).biu.quiet = s.biu.quiet
    ∧ (attemptCompleted heard s).biu.stuck = s.biu.stuck := by
  simp [attemptCompleted]

@[simp] theorem dropFifo_keeps (f : OutFrame) (s : State) :
    (dropFifo f s).cas = s.cas ∧ (dropFifo f s).ntg = s.ntg ∧ (dropFifo f s).dsp = s.dsp ∧ (dropFifo f s).drw = s.drw
    ∧ (dropFifo f s).ink = s.ink ∧ (dropFifo f s).pkt = s.pkt ∧ (dropFifo f s).pt = s.pt ∧ (dropFifo f s).alm = s.alm
    ∧ (dropFifo f s).cmd = s.cmd ∧ (dropFifo f s).lsv = s.lsv ∧ (dropFifo f s).lines = s.lines ∧ (dropFifo f
    s).outputs = s.outputs ∧ (dropFifo f s).pending = s.pending ∧ (dropFifo f s).biu.slow = s.biu.slow ∧ (dropFifo f
    s).biu.attempt = s.biu.attempt ∧ (dropFifo f s).biu.lastOutcome = s.biu.lastOutcome ∧ (dropFifo f s).biu.alarmFlag
    = s.biu.alarmFlag ∧ (dropFifo f s).biu.wallQueue = s.biu.wallQueue ∧ (dropFifo f s).biu.statusFlag =
    s.biu.statusFlag ∧ (dropFifo f s).biu.voidCount = s.biu.voidCount ∧ (dropFifo f s).biu.quiet = s.biu.quiet ∧
    (dropFifo f s).biu.stuck = s.biu.stuck ∧ (dropFifo f s).biu.broken = s.biu.broken := by
  simp [dropFifo]

@[simp] theorem wallVoided_keeps (item : WallItem) (s : State) :
    (wallVoided item s).cas = s.cas ∧ (wallVoided item s).lines = s.lines ∧ (wallVoided item s).outputs = s.outputs ∧
    (wallVoided item s).pending = s.pending ∧ (wallVoided item s).ink.raster = s.ink.raster ∧ (wallVoided item
    s).ink.fieldPage = s.ink.fieldPage ∧ (wallVoided item s).ink.fieldCol = s.ink.fieldCol ∧ (wallVoided item
    s).ink.energy = s.ink.energy ∧ (wallVoided item s).ink.mirror = s.ink.mirror ∧ (wallVoided item s).ink.sensor =
    s.ink.sensor ∧ (wallVoided item s).pkt.gate = s.pkt.gate ∧ (wallVoided item s).pkt.fairness = s.pkt.fairness ∧
    (wallVoided item s).pkt.capacity = s.pkt.capacity ∧ (wallVoided item s).pt.view = s.pt.view ∧ (wallVoided item
    s).pt.wallLimit = s.pt.wallLimit ∧ (wallVoided item s).pt.quietEnded = s.pt.quietEnded ∧ (wallVoided item
    s).pt.stuckSeen = s.pt.stuckSeen ∧ (wallVoided item s).pt.statusTimer = s.pt.statusTimer ∧ (wallVoided item
    s).alm.loops = s.alm.loops ∧ (wallVoided item s).biu.slow = s.biu.slow ∧ (wallVoided item s).biu.attempt =
    s.biu.attempt ∧ (wallVoided item s).biu.lastOutcome = s.biu.lastOutcome ∧ (wallVoided item s).biu.statusFlag =
    s.biu.statusFlag ∧ (wallVoided item s).biu.voidCount = s.biu.voidCount ∧ (wallVoided item s).biu.quiet =
    s.biu.quiet ∧ (wallVoided item s).biu.stuck = s.biu.stuck ∧ (wallVoided item s).biu.broken = s.biu.broken ∧
    (wallVoided item s).cmd.acked = s.cmd.acked ∧ (wallVoided item s).lsv.station = s.lsv.station ∧ (wallVoided item
    s).lsv.gotLane = s.lsv.gotLane ∧ (wallVoided item s).lsv.gotBins = s.lsv.gotBins := by
  unfold wallVoided
  dsimp only
  (repeat' split) <;> simp

@[simp] theorem voidAttempt_keeps (s : State) :
    (voidAttempt s).cas = s.cas ∧ (voidAttempt s).lines = s.lines ∧ (voidAttempt s).outputs = s.outputs ∧ (voidAttempt
    s).pending = s.pending ∧ (voidAttempt s).ink.raster = s.ink.raster ∧ (voidAttempt s).ink.fieldPage =
    s.ink.fieldPage ∧ (voidAttempt s).ink.fieldCol = s.ink.fieldCol ∧ (voidAttempt s).ink.energy = s.ink.energy ∧
    (voidAttempt s).ink.mirror = s.ink.mirror ∧ (voidAttempt s).ink.sensor = s.ink.sensor ∧ (voidAttempt s).pkt.gate =
    s.pkt.gate ∧ (voidAttempt s).pkt.fairness = s.pkt.fairness ∧ (voidAttempt s).pkt.capacity = s.pkt.capacity ∧
    (voidAttempt s).pt.view = s.pt.view ∧ (voidAttempt s).pt.wallLimit = s.pt.wallLimit ∧ (voidAttempt
    s).pt.quietEnded = s.pt.quietEnded ∧ (voidAttempt s).pt.stuckSeen = s.pt.stuckSeen ∧ (voidAttempt s).alm.loops =
    s.alm.loops ∧ (voidAttempt s).biu.slow = s.biu.slow ∧ (voidAttempt s).biu.voidCount = s.biu.voidCount ∧
    (voidAttempt s).biu.quiet = s.biu.quiet ∧ (voidAttempt s).biu.stuck = s.biu.stuck ∧ (voidAttempt s).biu.broken =
    s.biu.broken ∧ (voidAttempt s).cmd.acked = s.cmd.acked ∧ (voidAttempt s).lsv.station = s.lsv.station ∧
    (voidAttempt s).lsv.gotLane = s.lsv.gotLane ∧ (voidAttempt s).lsv.gotBins = s.lsv.gotBins := by
  unfold voidAttempt
  dsimp only
  (repeat' split) <;> simp

@[simp] theorem loseAttempt_keeps (s : State) :
    (loseAttempt s).cas = s.cas ∧ (loseAttempt s).lines = s.lines ∧ (loseAttempt s).outputs = s.outputs ∧ (loseAttempt
    s).pending = s.pending ∧ (loseAttempt s).ink.raster = s.ink.raster ∧ (loseAttempt s).ink.fieldPage =
    s.ink.fieldPage ∧ (loseAttempt s).ink.fieldCol = s.ink.fieldCol ∧ (loseAttempt s).ink.energy = s.ink.energy ∧
    (loseAttempt s).ink.mirror = s.ink.mirror ∧ (loseAttempt s).ink.sensor = s.ink.sensor ∧ (loseAttempt s).pkt.gate =
    s.pkt.gate ∧ (loseAttempt s).pkt.fairness = s.pkt.fairness ∧ (loseAttempt s).pkt.capacity = s.pkt.capacity ∧
    (loseAttempt s).pt.view = s.pt.view ∧ (loseAttempt s).pt.wallLimit = s.pt.wallLimit ∧ (loseAttempt
    s).pt.quietEnded = s.pt.quietEnded ∧ (loseAttempt s).pt.stuckSeen = s.pt.stuckSeen ∧ (loseAttempt
    s).pt.statusTimer = s.pt.statusTimer ∧ (loseAttempt s).alm.loops = s.alm.loops ∧ (loseAttempt s).biu.slow =
    s.biu.slow ∧ (loseAttempt s).biu.statusFlag = s.biu.statusFlag ∧ (loseAttempt s).biu.voidCount = s.biu.voidCount ∧
    (loseAttempt s).biu.quiet = s.biu.quiet ∧ (loseAttempt s).biu.stuck = s.biu.stuck ∧ (loseAttempt s).biu.broken =
    s.biu.broken ∧ (loseAttempt s).cmd.acked = s.cmd.acked ∧ (loseAttempt s).lsv.station = s.lsv.station ∧
    (loseAttempt s).lsv.gotLane = s.lsv.gotLane ∧ (loseAttempt s).lsv.gotBins = s.lsv.gotBins := by
  unfold loseAttempt
  dsimp only
  (repeat' split) <;> simp

@[simp] theorem clearSticky_keeps (payload : List Byte) (s : State) :
    (clearSticky payload s).cas = s.cas ∧ (clearSticky payload s).ntg = s.ntg ∧ (clearSticky payload s).dsp = s.dsp ∧
    (clearSticky payload s).drw = s.drw ∧ (clearSticky payload s).ink = s.ink ∧ (clearSticky payload s).pkt = s.pkt ∧
    (clearSticky payload s).alm = s.alm ∧ (clearSticky payload s).biu = s.biu ∧ (clearSticky payload s).cmd = s.cmd ∧
    (clearSticky payload s).lsv = s.lsv ∧ (clearSticky payload s).lines = s.lines ∧ (clearSticky payload s).outputs =
    s.outputs ∧ (clearSticky payload s).pending = s.pending ∧ (clearSticky payload s).pt.peers = s.pt.peers ∧
    (clearSticky payload s).pt.view = s.pt.view ∧ (clearSticky payload s).pt.listenIn = s.pt.listenIn ∧ (clearSticky
    payload s).pt.wallLimit = s.pt.wallLimit ∧ (clearSticky payload s).pt.statusTimer = s.pt.statusTimer := by
  simp [clearSticky]

@[simp] theorem ownReserveDone_keeps (amount : Nat) (s : State) :
    (ownReserveDone amount s).cas = s.cas ∧ (ownReserveDone amount s).lines = s.lines ∧ (ownReserveDone amount
    s).outputs = s.outputs ∧ (ownReserveDone amount s).pending = s.pending ∧ (ownReserveDone amount s).ink.raster =
    s.ink.raster ∧ (ownReserveDone amount s).ink.fieldPage = s.ink.fieldPage ∧ (ownReserveDone amount s).ink.fieldCol
    = s.ink.fieldCol ∧ (ownReserveDone amount s).ink.energy = s.ink.energy ∧ (ownReserveDone amount s).ink.mirror =
    s.ink.mirror ∧ (ownReserveDone amount s).ink.sensor = s.ink.sensor ∧ (ownReserveDone amount s).pkt.gate =
    s.pkt.gate ∧ (ownReserveDone amount s).pkt.fairness = s.pkt.fairness ∧ (ownReserveDone amount s).pkt.capacity =
    s.pkt.capacity ∧ (ownReserveDone amount s).pt.view = s.pt.view ∧ (ownReserveDone amount s).pt.wallLimit =
    s.pt.wallLimit ∧ (ownReserveDone amount s).pt.quietEnded = s.pt.quietEnded ∧ (ownReserveDone amount
    s).pt.stuckSeen = s.pt.stuckSeen ∧ (ownReserveDone amount s).pt.statusTimer = s.pt.statusTimer ∧ (ownReserveDone
    amount s).alm.loops = s.alm.loops ∧ (ownReserveDone amount s).biu.slow = s.biu.slow ∧ (ownReserveDone amount
    s).biu.attempt = s.biu.attempt ∧ (ownReserveDone amount s).biu.lastOutcome = s.biu.lastOutcome ∧ (ownReserveDone
    amount s).biu.statusFlag = s.biu.statusFlag ∧ (ownReserveDone amount s).biu.voidCount = s.biu.voidCount ∧
    (ownReserveDone amount s).biu.quiet = s.biu.quiet ∧ (ownReserveDone amount s).biu.stuck = s.biu.stuck ∧
    (ownReserveDone amount s).biu.broken = s.biu.broken ∧ (ownReserveDone amount s).cmd.acked = s.cmd.acked ∧
    (ownReserveDone amount s).lsv.station = s.lsv.station ∧ (ownReserveDone amount s).lsv.gotLane = s.lsv.gotLane ∧
    (ownReserveDone amount s).lsv.gotBins = s.lsv.gotBins := by
  simp [ownReserveDone]

@[simp] theorem completeAttempt_keeps (heard : Bool) (s : State) :
    (completeAttempt heard s).cas = s.cas ∧ (completeAttempt heard s).lines = s.lines ∧ (completeAttempt heard
    s).pending = s.pending ∧ (completeAttempt heard s).ink.raster = s.ink.raster ∧ (completeAttempt heard
    s).ink.fieldPage = s.ink.fieldPage ∧ (completeAttempt heard s).ink.fieldCol = s.ink.fieldCol ∧ (completeAttempt
    heard s).ink.energy = s.ink.energy ∧ (completeAttempt heard s).ink.mirror = s.ink.mirror ∧ (completeAttempt heard
    s).ink.sensor = s.ink.sensor ∧ (completeAttempt heard s).pkt.capacity = s.pkt.capacity ∧ (completeAttempt heard
    s).pt.wallLimit = s.pt.wallLimit ∧ (completeAttempt heard s).alm.loops = s.alm.loops ∧ (completeAttempt heard
    s).biu.slow = s.biu.slow ∧ (completeAttempt heard s).biu.quiet = s.biu.quiet ∧ (completeAttempt heard s).biu.stuck
    = s.biu.stuck ∧ (completeAttempt heard s).cmd.acked = s.cmd.acked ∧ (completeAttempt heard s).lsv.station =
    s.lsv.station ∧ (completeAttempt heard s).lsv.gotLane = s.lsv.gotLane ∧ (completeAttempt heard s).lsv.gotBins =
    s.lsv.gotBins := by
  unfold completeAttempt
  dsimp only
  (repeat' split) <;> simp

@[simp] theorem enterQuiet_keeps (s : State) :
    (enterQuiet s).cas = s.cas ∧ (enterQuiet s).ntg = s.ntg ∧ (enterQuiet s).drw = s.drw ∧ (enterQuiet s).ink = s.ink
    ∧ (enterQuiet s).pkt = s.pkt ∧ (enterQuiet s).alm = s.alm ∧ (enterQuiet s).lsv = s.lsv ∧ (enterQuiet s).lines =
    s.lines ∧ (enterQuiet s).outputs = s.outputs ∧ (enterQuiet s).pending = s.pending ∧ (enterQuiet s).pt.view =
    s.pt.view ∧ (enterQuiet s).pt.wallLimit = s.pt.wallLimit ∧ (enterQuiet s).pt.quietEnded = s.pt.quietEnded ∧
    (enterQuiet s).pt.stuckSeen = s.pt.stuckSeen ∧ (enterQuiet s).pt.statusTimer = s.pt.statusTimer ∧ (enterQuiet
    s).biu.slow = s.biu.slow ∧ (enterQuiet s).biu.attempt = s.biu.attempt ∧ (enterQuiet s).biu.lastOutcome =
    s.biu.lastOutcome ∧ (enterQuiet s).biu.alarmFlag = s.biu.alarmFlag ∧ (enterQuiet s).biu.statusFlag =
    s.biu.statusFlag ∧ (enterQuiet s).biu.voidCount = s.biu.voidCount ∧ (enterQuiet s).biu.stuck = s.biu.stuck ∧
    (enterQuiet s).biu.broken = s.biu.broken ∧ (enterQuiet s).cmd.owner = s.cmd.owner ∧ (enterQuiet s).cmd.acked =
    s.cmd.acked := by
  simp [enterQuiet]

@[simp] theorem countVoid_keeps (s : State) :
    (countVoid s).cas = s.cas ∧ (countVoid s).ntg = s.ntg ∧ (countVoid s).drw = s.drw ∧ (countVoid s).ink = s.ink ∧
    (countVoid s).pkt = s.pkt ∧ (countVoid s).alm = s.alm ∧ (countVoid s).lsv = s.lsv ∧ (countVoid s).lines = s.lines
    ∧ (countVoid s).outputs = s.outputs ∧ (countVoid s).pending = s.pending ∧ (countVoid s).pt.view = s.pt.view ∧
    (countVoid s).pt.wallLimit = s.pt.wallLimit ∧ (countVoid s).pt.quietEnded = s.pt.quietEnded ∧ (countVoid
    s).pt.stuckSeen = s.pt.stuckSeen ∧ (countVoid s).pt.statusTimer = s.pt.statusTimer ∧ (countVoid s).biu.slow =
    s.biu.slow ∧ (countVoid s).biu.attempt = s.biu.attempt ∧ (countVoid s).biu.lastOutcome = s.biu.lastOutcome ∧
    (countVoid s).biu.alarmFlag = s.biu.alarmFlag ∧ (countVoid s).biu.statusFlag = s.biu.statusFlag ∧ (countVoid
    s).biu.stuck = s.biu.stuck ∧ (countVoid s).biu.broken = s.biu.broken ∧ (countVoid s).cmd.owner = s.cmd.owner ∧
    (countVoid s).cmd.acked = s.cmd.acked := by
  unfold countVoid
  dsimp only
  (repeat' split) <;> simp

@[simp] theorem leaveQuiet_keeps (s : State) :
    (leaveQuiet s).cas = s.cas ∧ (leaveQuiet s).ntg = s.ntg ∧ (leaveQuiet s).dsp = s.dsp ∧ (leaveQuiet s).drw = s.drw
    ∧ (leaveQuiet s).ink = s.ink ∧ (leaveQuiet s).pkt = s.pkt ∧ (leaveQuiet s).alm = s.alm ∧ (leaveQuiet s).cmd =
    s.cmd ∧ (leaveQuiet s).lsv = s.lsv ∧ (leaveQuiet s).lines = s.lines ∧ (leaveQuiet s).outputs = s.outputs ∧
    (leaveQuiet s).pending = s.pending ∧ (leaveQuiet s).pt.peers = s.pt.peers ∧ (leaveQuiet s).pt.view = s.pt.view ∧
    (leaveQuiet s).pt.wallLimit = s.pt.wallLimit ∧ (leaveQuiet s).pt.stuckSeen = s.pt.stuckSeen ∧ (leaveQuiet
    s).pt.statusTimer = s.pt.statusTimer ∧ (leaveQuiet s).biu.slow = s.biu.slow ∧ (leaveQuiet s).biu.attempt =
    s.biu.attempt ∧ (leaveQuiet s).biu.lastOutcome = s.biu.lastOutcome ∧ (leaveQuiet s).biu.alarmFlag =
    s.biu.alarmFlag ∧ (leaveQuiet s).biu.wallQueue = s.biu.wallQueue ∧ (leaveQuiet s).biu.fifo = s.biu.fifo ∧
    (leaveQuiet s).biu.statusFlag = s.biu.statusFlag ∧ (leaveQuiet s).biu.stuck = s.biu.stuck ∧ (leaveQuiet
    s).biu.broken = s.biu.broken := by
  simp [leaveQuiet]

@[simp] theorem breakFrame_keeps (s : State) :
    (breakFrame s).cas = s.cas ∧ (breakFrame s).lines = s.lines ∧ (breakFrame s).pending = s.pending ∧ (breakFrame
    s).ink.raster = s.ink.raster ∧ (breakFrame s).ink.fieldPage = s.ink.fieldPage ∧ (breakFrame s).ink.fieldCol =
    s.ink.fieldCol ∧ (breakFrame s).ink.energy = s.ink.energy ∧ (breakFrame s).ink.mirror = s.ink.mirror ∧ (breakFrame
    s).ink.sensor = s.ink.sensor ∧ (breakFrame s).pkt.gate = s.pkt.gate ∧ (breakFrame s).pkt.fairness = s.pkt.fairness
    ∧ (breakFrame s).pkt.capacity = s.pkt.capacity ∧ (breakFrame s).pt.view = s.pt.view ∧ (breakFrame s).pt.wallLimit
    = s.pt.wallLimit ∧ (breakFrame s).pt.quietEnded = s.pt.quietEnded ∧ (breakFrame s).pt.stuckSeen = s.pt.stuckSeen ∧
    (breakFrame s).alm.loops = s.alm.loops ∧ (breakFrame s).biu.slow = s.biu.slow ∧ (breakFrame s).biu.stuck =
    s.biu.stuck ∧ (breakFrame s).lsv.station = s.lsv.station ∧ (breakFrame s).lsv.gotLane = s.lsv.gotLane ∧
    (breakFrame s).lsv.gotBins = s.lsv.gotBins := by
  unfold breakFrame
  dsimp only
  (repeat' split) <;> simp

@[simp] theorem endVoided_keeps (frame : Option RxFrame) (s : State) :
    (endVoided frame s).cas = s.cas ∧ (endVoided frame s).lines = s.lines ∧ (endVoided frame s).pending = s.pending ∧
    (endVoided frame s).ink.raster = s.ink.raster ∧ (endVoided frame s).ink.fieldPage = s.ink.fieldPage ∧ (endVoided
    frame s).ink.fieldCol = s.ink.fieldCol ∧ (endVoided frame s).ink.energy = s.ink.energy ∧ (endVoided frame
    s).ink.mirror = s.ink.mirror ∧ (endVoided frame s).ink.sensor = s.ink.sensor ∧ (endVoided frame s).pkt.gate =
    s.pkt.gate ∧ (endVoided frame s).pkt.fairness = s.pkt.fairness ∧ (endVoided frame s).pkt.capacity = s.pkt.capacity
    ∧ (endVoided frame s).pt.view = s.pt.view ∧ (endVoided frame s).pt.wallLimit = s.pt.wallLimit ∧ (endVoided frame
    s).pt.quietEnded = s.pt.quietEnded ∧ (endVoided frame s).pt.stuckSeen = s.pt.stuckSeen ∧ (endVoided frame
    s).alm.loops = s.alm.loops ∧ (endVoided frame s).biu.slow = s.biu.slow ∧ (endVoided frame s).biu.stuck =
    s.biu.stuck ∧ (endVoided frame s).lsv.station = s.lsv.station ∧ (endVoided frame s).lsv.gotLane = s.lsv.gotLane ∧
    (endVoided frame s).lsv.gotBins = s.lsv.gotBins := by
  unfold endVoided
  dsimp only
  (repeat' split) <;> simp

@[simp] theorem commandAck_keeps (f : RxFrame) (s : State) :
    (commandAck f s).cas = s.cas ∧ (commandAck f s).ntg = s.ntg ∧ (commandAck f s).dsp = s.dsp ∧ (commandAck f s).drw
    = s.drw ∧ (commandAck f s).ink = s.ink ∧ (commandAck f s).pkt = s.pkt ∧ (commandAck f s).pt = s.pt ∧ (commandAck f
    s).alm = s.alm ∧ (commandAck f s).lsv = s.lsv ∧ (commandAck f s).lines = s.lines ∧ (commandAck f s).pending =
    s.pending ∧ (commandAck f s).biu.slow = s.biu.slow ∧ (commandAck f s).biu.attempt = s.biu.attempt ∧ (commandAck f
    s).biu.lastOutcome = s.biu.lastOutcome ∧ (commandAck f s).biu.alarmFlag = s.biu.alarmFlag ∧ (commandAck f
    s).biu.wallQueue = s.biu.wallQueue ∧ (commandAck f s).biu.statusFlag = s.biu.statusFlag ∧ (commandAck f
    s).biu.voidCount = s.biu.voidCount ∧ (commandAck f s).biu.quiet = s.biu.quiet ∧ (commandAck f s).biu.stuck =
    s.biu.stuck ∧ (commandAck f s).biu.broken = s.biu.broken ∧ (commandAck f s).cmd.owner = s.cmd.owner ∧ (commandAck
    f s).cmd.eventGap = s.cmd.eventGap := by
  unfold commandAck
  dsimp only
  (repeat' split) <;> simp

@[simp] theorem serveQuery_keeps (source : Station) (payload : List Byte) (s : State) :
    (serveQuery source payload s).1.cas = s.cas ∧ (serveQuery source payload s).1.ntg = s.ntg ∧ (serveQuery source
    payload s).1.dsp = s.dsp ∧ (serveQuery source payload s).1.drw = s.drw ∧ (serveQuery source payload s).1.ink =
    s.ink ∧ (serveQuery source payload s).1.pkt = s.pkt ∧ (serveQuery source payload s).1.pt = s.pt ∧ (serveQuery
    source payload s).1.alm = s.alm ∧ (serveQuery source payload s).1.lsv = s.lsv ∧ (serveQuery source payload
    s).1.lines = s.lines ∧ (serveQuery source payload s).1.outputs = s.outputs ∧ (serveQuery source payload
    s).1.pending = s.pending ∧ (serveQuery source payload s).1.biu.slow = s.biu.slow ∧ (serveQuery source payload
    s).1.biu.attempt = s.biu.attempt ∧ (serveQuery source payload s).1.biu.lastOutcome = s.biu.lastOutcome ∧
    (serveQuery source payload s).1.biu.alarmFlag = s.biu.alarmFlag ∧ (serveQuery source payload s).1.biu.wallQueue =
    s.biu.wallQueue ∧ (serveQuery source payload s).1.biu.statusFlag = s.biu.statusFlag ∧ (serveQuery source payload
    s).1.biu.voidCount = s.biu.voidCount ∧ (serveQuery source payload s).1.biu.quiet = s.biu.quiet ∧ (serveQuery
    source payload s).1.biu.stuck = s.biu.stuck ∧ (serveQuery source payload s).1.biu.broken = s.biu.broken ∧
    (serveQuery source payload s).1.cmd.owner = s.cmd.owner ∧ (serveQuery source payload s).1.cmd.acked = s.cmd.acked := by
  unfold serveQuery
  dsimp only
  (repeat' split) <;> simp

end Sys2Proof.Machine
end

