-- ==== Sys2Proof/Laws/Ops.lean ====
section
/-!
SUPPORT. What each shared operation can do, said once: an event and the FIFO, a command and its checks, the cassette reports, the
blocks as they settle, faults and the wall set, and the frames of other stations. Later proofs cite these and leave the operations folded.
-/

namespace Sys2Proof.Machine

open Sys2Proof

variable (s : State)

/-! ### Steps -/

theorem act_eq (f : State → State) : act f s = .next (f (begun s)) := rfl

@[simp] theorem when_true (f : State → State) : when true f s = f s := rfl
@[simp] theorem when_false (f : State → State) : when false f s = s := rfl

/-- A command that answers does so with the state its operation makes. -/
theorem act_next {f : State → State} {t : State} (h : act f s = .next t) : t = f (begun s) := by
  rw [act_eq] at h
  exact (Host.Outcome.next.inj h).symm

/-! ### Clamping -/

theorem clampTo_bounds {lo hi : Nat} (h : lo ≤ hi) (v : Nat) : lo ≤ clampTo lo hi v ∧ clampTo lo hi v ≤ hi := by
  unfold clampTo
  split
  · omega
  · split <;> omega

theorem clampTo_inside {lo hi v : Nat} (h : lo ≤ v) (h' : v ≤ hi) : clampTo lo hi v = v := by
  unfold clampTo
  rw [if_neg (by omega), if_neg (by omega)]

/-! ### Events -/

/-- An event takes the newest position or is dropped with the flag set (R176). -/
theorem queueEvent_cases (kind : Nat) (payload : List Byte) :
    (s.biu.fifo.length < 8 ∧ queueEvent kind payload s
        = { s with biu.fifo := s.biu.fifo ++ [.frame { kind := kind, dest := s.eventDest, payload := payload }] })
    ∨ (8 ≤ s.biu.fifo.length ∧ queueEvent kind payload s = { s with cmd.eventGap := true }) := by
  unfold queueEvent
  by_cases h : s.biu.fifo.length < Config.fifoPositions
  · exact .inl ⟨h, by rw [if_pos h]⟩
  · exact .inr ⟨Nat.le_of_not_lt h, by rw [if_neg h]⟩

theorem queueEvent_fifo_le {kind : Nat} {payload : List Byte} (h : s.biu.fifo.length ≤ 8) :
    (queueEvent kind payload s).biu.fifo.length ≤ 8 := by
  obtain ⟨hl, he⟩ | ⟨-, he⟩ := queueEvent_cases s kind payload <;> rw [he]
  · simp; omega
  · exact h

/-- Filling a position changes no count of positions. -/
theorem fillPos_length (w : Reservation) (f : FifoPos) : ∀ l, (fillPos w f l).length = l.length
  | [] => rfl
  | p :: rest => by
    unfold fillPos
    split
    · rfl
    · simp [fillPos_length w f rest]

@[simp] theorem fillFrame_fifo_length (w : Reservation) (f : OutFrame) :
    (fillFrame w f s).biu.fifo.length = s.biu.fifo.length := fillPos_length _ _ _

/-! ### Taken commands -/

@[simp] theorem begun_outputs : (begun s).outputs = [] := rfl

/-- What a taken command finds is the lane as it stood, apart from the source's record, the void count and the ACK. -/
theorem atCommand_keeps (source : Station) :
    (atCommand s source).cas = s.cas ∧ (atCommand s source).ntg = s.ntg ∧ (atCommand s source).dsp = s.dsp
    ∧ (atCommand s source).drw = s.drw ∧ (atCommand s source).ink = s.ink ∧ (atCommand s source).pkt = s.pkt
    ∧ (atCommand s source).alm = s.alm ∧ (atCommand s source).lsv = s.lsv ∧ (atCommand s source).lines = s.lines
    ∧ (atCommand s source).cmd.owner = s.cmd.owner ∧ (atCommand s source).cmd.eventGap = s.cmd.eventGap
    ∧ (atCommand s source).cmd.acked = none ∧ (atCommand s source).outputs = [] ∧ (atCommand s source).pending = s.pending
    ∧ (atCommand s source).biu.fifo = s.biu.fifo ∧ (atCommand s source).biu.wallQueue = s.biu.wallQueue
    ∧ (atCommand s source).biu.attempt = s.biu.attempt ∧ (atCommand s source).biu.quiet = s.biu.quiet
    ∧ (atCommand s source).biu.stuck = s.biu.stuck ∧ (atCommand s source).pt.view = s.pt.view
    ∧ (atCommand s source).pt.listenIn = s.pt.listenIn ∧ (atCommand s source).pt.wallLimit = s.pt.wallLimit := by
  simp [atCommand]

/-- A command frame whose ACK was driven here, of an allowed length, is served in the state `atCommand` and answered. -/
theorem onCommand_taken {source : Station} {kind : BitVec 7} {tag : Byte} {rest : List Byte}
    (h : Taken s source kind (tag :: rest)) (hl : lengthAllowed kind (rest.length + 1) = true)
    (serve : List Byte → State → State × Reply) :
    onCommand kind source (tag :: rest) serve (begun s)
      = answer source tag kind (serve (tag :: rest) (atCommand s source)).2 (serve (tag :: rest) (atCommand s source)).1 := by
  obtain ⟨hj, ha⟩ := h
  have hj' : (begun s).joined = true := hj
  have ha' : (hear source (begun s)).cmd.acked = some { source := source, kind := kind, payload := tag :: rest } := by
    simpa [begun] using ha
  simp only [onCommand, hj', ha', if_true, List.length_cons, hl]
  rfl

/-- A taken frame of a length or kind outside the table is answered BAD_PARAM. -/
theorem onCommand_bad {source : Station} {kind : BitVec 7} {tag : Byte} {rest : List Byte}
    (h : Taken s source kind (tag :: rest)) (hl : lengthAllowed kind (rest.length + 1) = false)
    (serve : List Byte → State → State × Reply) :
    onCommand kind source (tag :: rest) serve (begun s)
      = replied source tag kind .badParam []
          { atCommand s source with biu.fifo := (atCommand s source).biu.fifo.erase (.reserved .record) } := by
  obtain ⟨hj, ha⟩ := h
  have hj' : (begun s).joined = true := hj
  have ha' : (hear source (begun s)).cmd.acked = some { source := source, kind := kind, payload := tag :: rest } := by
    simpa [begun] using ha
  simp only [onCommand, hj', ha', if_true, List.length_cons, hl]
  rfl

/-- A frame whose ACK was not driven here is heard and no more. -/
theorem onCommand_untaken {source : Station} {kind : BitVec 7} {payload : List Byte} (hj : s.joined = true)
    (ha : s.cmd.acked ≠ some { source := source, kind := kind, payload := payload })
    (serve : List Byte → State → State × Reply) :
    onCommand kind source payload serve (begun s) = hear source (begun s) := by
  have hj' : (begun s).joined = true := hj
  have ha' : (hear source (begun s)).cmd.acked ≠ some { source := source, kind := kind, payload := payload } := by
    simpa [begun] using ha
  simp only [onCommand, hj', if_true, ha', if_false]

/-- A lane in STARTING does nothing with a command. -/
theorem onCommand_unjoined {source : Station} {kind : BitVec 7} {payload : List Byte} (hj : s.joined = false)
    (serve : List Byte → State → State × Reply) : onCommand kind source payload serve (begun s) = begun s := by
  have hj' : (begun s).joined = false := hj
  unfold onCommand
  rw [hj']
  rfl

@[simp] theorem answer_some (source : Station) (tag : Byte) (kind : BitVec 7) (code : Code) (detail : List Byte) :
    answer source tag kind (some (code, detail)) s = replied source tag kind code detail s := rfl
@[simp] theorem answer_none (source : Station) (tag : Byte) (kind : BitVec 7) : answer source tag kind none s = s := rfl

/-! ### Checks -/

@[simp] theorem firstFailing_nil : firstFailing [] = none := rfl
@[simp] theorem firstFailing_cons (c : Code) (rest : List (Bool × Code)) (b : Bool) :
    firstFailing ((b, c) :: rest) = if b then some c else firstFailing rest := rfl

theorem checked_refused {checks : List (Bool × Code)} {code : Code} (h : firstFailing checks = some code)
    (effect : State → State × Reply) : checked checks effect s = (s, plain code) := by
  simp [checked, h, refuse]

theorem checked_passed {checks : List (Bool × Code)} (h : firstFailing checks = none) (effect : State → State × Reply) :
    checked checks effect s = effect s := by
  simp [checked, h]

/-- Every check of a list passes exactly where none of them fails. -/
theorem firstFailing_none_iff : ∀ checks : List (Bool × Code),
    firstFailing checks = none ↔ ∀ c ∈ checks, c.1 = false
  | [] => by simp
  | (b, c) :: rest => by
    cases b <;> simp [firstFailing_none_iff rest]

/-! ### Cassettes -/

theorem casJudge_state (c : Cassette) : (casJudge c).state = casState (casJudge c) := rfl

/-- A report changes the one record by its rule and queues an event where the rule names a cause (R8). -/
theorem casApply_cases (k : Slot) (f : Cassette → Cassette × Option CasCause) :
    ((f (s.cas.get k)).2 = none ∧ casApply k f s = { s with cas := s.cas.set k (f (s.cas.get k)).1 })
    ∨ ∃ cause, (f (s.cas.get k)).2 = some cause
        ∧ casApply k f s = cassetteEvent k cause { s with cas := s.cas.set k (f (s.cas.get k)).1 } := by
  cases h : (f (s.cas.get k)).2 with
  | none => exact .inl ⟨rfl, by simp [casApply, h]⟩
  | some c => exact .inr ⟨c, rfl, by simp [casApply, h]⟩

/-- A slot check withdraws the transport from an ACTIVE PICK entry whose slot is no longer eligible, and else does nothing (R59). -/
theorem dspSlotCheck_idle (h : s.dsp.state ≠ .picking) : dspSlotCheck s = s := by
  simp [dspSlotCheck, h]

/-! ### Settling (R26, R36, R76, R92, R115) -/

theorem settleInk_not_waiting (h : s.ink.state ≠ .waiting) : settleInk s = s := by
  simp [settleInk, h]

theorem settleDrw_none (h : s.drw.pendingReq = none) : settleDrw s = s := by
  simp [settleDrw, h]

/-- The transport turns its diverter and fires at most one pick. -/
theorem settleNtg_cases :
    (fires { s with ntg := ntgDivert s.ntg } = none ∧ settleNtg s = { s with ntg := ntgDivert s.ntg })
    ∨ ∃ k, fires { s with ntg := ntgDivert s.ntg } = some k ∧ settleNtg s = drive (.pick k)
        { s with ntg := { ntgDivert s.ntg with records := (ntgDivert s.ntg).records ++ [pickedRecord k] } } := by
  cases h : fires { s with ntg := ntgDivert s.ntg } with
  | none => exact .inl ⟨rfl, by simp [settleNtg, h]⟩
  | some k => exact .inr ⟨k, rfl, by simp [settleNtg, h]⟩

/-- The pocket claims, withdraws a queued claim, or does nothing. -/
theorem settlePkt_cases :
    settlePkt s = s
    ∨ (s.pkt.chute = .none ∧ s.launchOk = true ∧ s.holderRecorded = false ∧ s.pkt.fairness = none
        ∧ settlePkt s = queueWall .claim { s with pkt.chute := .claiming })
    ∨ (s.pkt.chute = .claiming ∧ s.launchOk = false ∧ s.sending ≠ some .claim
        ∧ settlePkt s = dropWall .claim { s with pkt.chute := .none }) := by
  unfold settlePkt
  split
  · rename_i hc
    split
    · rename_i h; exact .inr (.inl ⟨hc, h.1, h.2.1, h.2.2, rfl⟩)
    · exact .inl rfl
  · rename_i hc
    split
    · rename_i h; exact .inr (.inr ⟨hc, h.2, h.1, rfl⟩)
    · exact .inl rfl
  · exact .inl rfl
  · exact .inl rfl

/-! ### Faults and the wall set (R148, R149, R185) -/

/-- A fault report takes a working lane to FAULT, is held in SERVICE, and is dropped elsewhere. -/
theorem faultReport_cases :
    ((s.lsv.lane = .purging ∨ s.lsv.lane = .listening ∨ s.lsv.lane = .closed ∨ s.lsv.lane = .opened)
        ∧ faultReport s = dspFault { s with lsv.lane := .fault })
    ∨ (s.lsv.lane = .service ∧ faultReport s = { s with lsv.heldFault := true })
    ∨ ((s.lsv.lane = .starting ∨ s.lsv.lane = .awaitConfig ∨ s.lsv.lane = .fault) ∧ faultReport s = s) := by
  unfold faultReport
  cases h : s.lsv.lane <;> simp

/-- Forming the wall set does no more, unless lockdown begins with it; then the dispense engine acts on it, and the drawer of a lane
that has left AWAIT_CONFIG. -/
theorem formWall_cases :
    ((s.lockdown = true ∨ s.formedWall.locks = false) ∧ formWall s = { s with alm.wall := s.formedWall })
    ∨ (s.lockdown = false ∧ s.formedWall.locks = true
        ∧ ((dspLockdown { s with alm.wall := s.formedWall }).drawerAnswersLockdown = true
            ∧ formWall s = (fun t => { t with drw := lockdownOrder t.drw }) (dspLockdown { s with alm.wall := s.formedWall })
          ∨ (dspLockdown { s with alm.wall := s.formedWall }).drawerAnswersLockdown = false
            ∧ formWall s = dspLockdown { s with alm.wall := s.formedWall })) := by
  have hl : ({ s with alm.wall := s.formedWall } : State).lockdown = s.formedWall.locks := rfl
  unfold formWall
  cases h : s.lockdown <;> cases h' : s.formedWall.locks <;> simp [hl, h']
  cases (dspLockdown { s with alm.wall := s.formedWall }).drawerAnswersLockdown <;> simp

/-! ### Frames of other stations (R129, R160, R165 to R167) -/

/-- A slot is driven in another station's frame, or none is. -/
theorem ackSlot_cases (f : RxFrame) :
    (s.drivesSlots = true ∧ s.biu.attempt = none ∧ f.dest = everyStation ∧ cleanHere f = true ∧ ackSlot f s = drive .ack s)
    ∨ ackSlot f s = s := by
  unfold ackSlot
  split
  · rename_i h
    simp only [Bool.and_eq_true, Option.isNone_iff_eq_none, decide_eq_true_eq] at h
    exact .inl ⟨h.1.1.1, h.1.1.2, h.1.2, h.2, rfl⟩
  · exact .inr rfl

/-- A frame in which this station found an error, or met before it joined, ends and does no more. -/
theorem receive_unclean (f : RxFrame) (effect : State → State) (h : (s.joined && cleanHere f) = false) :
    receive f effect s = { s with biu.broken := false } := by
  simp [receive, h]

/-- A clean frame of another station is heard, its slot driven, and its content applied. -/
theorem receive_clean (f : RxFrame) (effect : State → State) (hj : s.joined = true) (hc : cleanHere f = true)
    (hs : f.source ≠ s.lsv.station) : receive f effect s = effect (ackSlot f (hear f.source s)) := by
  simp [receive, hj, hc, hs]

/-- A clean frame under the own number is heard and reaches no record. -/
theorem receive_own (f : RxFrame) (effect : State → State) (hj : s.joined = true) (hc : cleanHere f = true)
    (hs : f.source = s.lsv.station) : receive f effect s = ackSlot f (hear f.source s) := by
  simp [receive, hj, hc, hs]

/-- A frame carries its content where class, kind and destination are the content's. -/
theorem carrying_cases (cls : BitVec 3) (kind : Nat) (f : RxFrame) (effect : State → State) :
    ((f.cls = cls ∧ f.kind.toNat = kind ∧ f.dest = everyStation) ∧ carrying cls kind f effect s = effect s)
    ∨ carrying cls kind f effect s = s := by
  unfold carrying
  split
  · exact .inl ⟨by assumption, rfl⟩
  · exact .inr rfl

/-- A broadcast of at most 24 bytes is clean. -/
theorem cleanHere_broadcast (cls : BitVec 3) (source : Station) (kind : BitVec 7) (payload : List Byte)
    (h : payload.length ≤ 24) : cleanHere (broadcast cls source kind payload) = true := by
  have hl : (BitVec.ofNat 6 payload.length).toNat = payload.length := by simp; omega
  simp [cleanHere, broadcast, malformed, crcMatches, rxCrc, frameCrc, maxPayload, Nat.mod_eq_of_lt (show payload.length < 64 by omega), h]

/-- A frame that has ended leaves no break to heed. -/
@[simp] theorem hear_broken (source : Station) : (hear source s).biu.broken = false := by
  unfold hear
  dsimp only
  split <;> rfl

/-- Who may drive a slot of a frame that it heard. -/
theorem hear_drivesSlots (source : Station) :
    (hear source s).drivesSlots = (s.joined && s.biu.quiet.isNone && !s.biu.stuck) := by
  simp [State.drivesSlots, State.joined]

/-- What a clean broadcast of another station does: it is received, and its content applied. -/
theorem receive_broadcast (cls : BitVec 3) (source : Station) (kind : BitVec 7) (payload : List Byte)
    (effect : State → State) (hj : s.joined = true) (hs : source ≠ s.lsv.station) (h : payload.length ≤ 24) :
    receive (broadcast cls source kind payload) effect (begun s) = effect (received source id s) := by
  have hc := cleanHere_broadcast cls source kind payload h
  rw [receive_clean (begun s) _ _ hj hc hs]
  congr 1
  have hj' : (begun s).joined = true := hj
  have hn : ¬ source = s.lsv.station := hs
  unfold ackSlot received heard ackDrives
  rw [hc, show (broadcast cls source kind payload).dest = everyStation from rfl,
    show (broadcast cls source kind payload).source = source from rfl, hear_drivesSlots, hj']
  by_cases hq : s.biu.quiet = none <;> cases hst : s.biu.stuck <;> by_cases ha : s.biu.attempt = none <;>
    simp [hq, hst, ha, hear, hn, drive, begun, setPeer]

/-- A break counts a frame once. -/
theorem breakFrame_cases :
    (s.biu.broken = true ∧ breakFrame s = drive .lineBreak { voidAttempt (dropReservations s) with biu.broken := true })
    ∨ (s.biu.broken = false
        ∧ breakFrame s = countVoid (drive .lineBreak { voidAttempt (dropReservations s) with biu.broken := true })) := by
  unfold breakFrame
  cases h : s.biu.broken <;> simp

/-- A void counted while nothing of the station's own is on the line, settled. -/
theorem countVoid_counts {u : State} (hu : u.biu.attempt = none) (o : Output) :
    CountedVoid u (settle (countVoid (drive o u))) o := by
  have hr : ∀ t : State, t.biu.attempt = none → t.reserveSending = false := fun t h => by
    simp [State.reserveSending, State.sending, h]
  constructor
  · intro h
    have : ¬ 16 ≤ u.biu.voidCount + 1 := by omega
    simp [countVoid, drive, Config.voidLimit, this]
  · intro h hs
    simp [countVoid, drive, Config.voidLimit, h, enterQuiet, dspQuiet, quietTime, hs]
  · intro h hs hq
    simp [countVoid, drive, Config.voidLimit, h, enterQuiet, dspQuiet, quietTime, hs, hq, hr, hu]

/-- A station voids a frame by a break or by OBJECT, and neither unless it may drive a slot. -/
theorem voids_cases (f : RxFrame) :
    (s.drivesSlots = true ∧ malformed f = true ∧ s.breaks f = true ∧ s.voids f = true)
    ∨ (s.breaks f = false ∧ s.objects f = true ∧ s.voids f = true)
    ∨ (s.breaks f = false ∧ s.objects f = false ∧ s.voids f = false) := by
  unfold State.voids
  cases hb : s.breaks f
  · cases s.objects f <;> simp
  · unfold State.breaks at hb
    simp only [Bool.and_eq_true] at hb
    exact .inl ⟨hb.1, hb.2, rfl, rfl⟩

/-- A frame without an error is voided by none. -/
theorem voids_clean (f : RxFrame) (h : cleanHere f = true) : s.voids f = false := by
  simp only [cleanHere, Bool.and_eq_true, Bool.not_eq_true'] at h
  simp [State.voids, State.breaks, State.objects, h.1, h.2]

/-- With no frame of the station's own on the line there is none to void. -/
theorem voidAttempt_none {s : State} (h : s.biu.attempt = none) : voidAttempt s = s := by
  unfold voidAttempt
  split
  · rfl
  · simp_all

/-- What a counted void does passes by the mark of a break. -/
theorem countVoid_broken (u : State) (b : Bool) :
    { countVoid u with biu.broken := b } = countVoid { u with biu.broken := b } := by
  have hr : ({ u with biu.broken := b } : State).reserveSending = u.reserveSending := rfl
  unfold countVoid
  dsimp only
  split
  · unfold enterQuiet dspQuiet dspEnd queueEvent queueWall dropWall setOwnExposure setPeer
    dsimp only
    repeat' split
    all_goals first | rfl | (simp_all [State.reserveSending, State.sending])
  · rfl

/-- A frame whose error this station answers ends with the void that the answer counts. -/
theorem endVoided_counts {f : RxFrame} {o : Output} (h : Answers s f o) :
    s.voids f = true ∧ CountedVoid (frameEnded s) (settle (endVoided (some f) (begun s))) o := by
  obtain ⟨⟨hj, hq, hs, hb⟩, ha, he⟩ := h
  have hd : s.drivesSlots = true := by simp [State.drivesSlots, hj, hq, hs, hb]
  have hu : (frameEnded s).biu.attempt = none := ha
  have hm : malformed f = true ↔ FormErrorIn f := by
    rw [malformed, Bool.or_eq_true, decide_eq_true_iff]
    exact Iff.rfl
  rcases he with ⟨hf, rfl⟩ | ⟨hf, hc, rfl⟩
  · have hv : s.breaks f = true := by simp [State.breaks, hd, hm.2 hf]
    refine ⟨by simp [State.voids, hv], ?_⟩
    have e : endVoided (some f) (begun s) = countVoid (drive .lineBreak (frameEnded s)) := by
      have hv' : (begun s).breaks f = true := hv
      simp only [endVoided, hv', if_true, breakFrame]
      have hb' : (begun s).biu.broken = false := hb
      have ha' : (dropReservations (begun s)).biu.attempt = none := ha
      rw [hb', voidAttempt_none ha']
      exact countVoid_broken (drive .lineBreak { dropReservations (begun s) with biu.broken := true }) false
    rw [e]
    exact countVoid_counts hu _
  · have hm' : malformed f = false := by
      cases h : malformed f
      · rfl
      · exact absurd (hm.1 h) hf
    have hv : s.objects f = true := by simp [State.objects, hd, ha, hm', crcMatches, hc]
    refine ⟨by simp [State.voids, hv], ?_⟩
    have e : endVoided (some f) (begun s) = countVoid (drive .object (frameEnded s)) := by
      have hv' : (begun s).objects f = true := hv
      have hv2 : (begun s).breaks f = false := by simp [State.breaks, hm']
      have hk : ackSlot f (begun s) = begun s := by simp [ackSlot, cleanHere, crcMatches, hc]
      have ha' : (dropReservations (begun s)).biu.attempt = none := ha
      simp only [endVoided, hv', hv2, hk, voidAttempt_none ha', if_true]
      rfl
    rw [e]
    exact countVoid_counts hu _

/-- A row of another station's frame has its effect, or ends a frame that this station voids. -/
theorem unlessVoided_cases (f : RxFrame) (taken : State → State) :
    (s.voids f = true ∧ unlessVoided f taken s = settle (endVoided (some f) s))
    ∨ (s.voids f = false ∧ unlessVoided f taken s = taken s) := by
  unfold unlessVoided
  cases s.voids f <;> simp

/-- A row of a frame in which this station finds no error has its effect. -/
theorem unlessVoided_clean (f : RxFrame) (taken : State → State) (h : cleanHere f = true) :
    unlessVoided f taken s = taken s := by
  simp [unlessVoided, voids_clean s f h]

/-! ### Kept lengths -/

theorem changeFirst_length (st : Stage) (f : ObjRec → ObjRec) : ∀ l, (changeFirst st f l).length = l.length
  | [] => rfl
  | r :: rest => by
    unfold changeFirst
    split
    · rfl
    · simp [changeFirst_length st f rest]

theorem changeEntry_length (st : EntryState) (f : Entry → Entry) : ∀ l, (changeEntry st f l).length = l.length
  | [] => rfl
  | e :: rest => by
    unfold changeEntry
    split
    · rfl
    · simp [changeEntry_length st f rest]

@[simp] theorem setOldest_length (st : EnvState) (l : List EnvRec) : (setOldest st l).length = l.length := by
  cases l <;> rfl

@[simp] theorem setOldest_seqs (st : EnvState) (l : List EnvRec) :
    (setOldest st l).map (fun e => e.seq) = l.map (fun e => e.seq) := by
  cases l <;> rfl

end Sys2Proof.Machine
end

