-- ==== Sys2Proof/Laws/PerInstr.lean ====
section
/-!
SUPPORT. What holds of every command as syntax, one lemma for each row of the table.
-/

namespace Sys2Proof.Laws.Carried

open Sys2Proof Machine

/-- What a well-formed command stands for fits a frame (R159). -/
def Statement (i : Instr) : Prop := i.wellFormed = true → i.payload.length ≤ 24

/-- A payload that fits has at most 24 bytes. -/
theorem payload_of_fits {p : List Byte} (h : fits p = true) : p.length ≤ 24 := of_decide_eq_true h

/-- So has the payload of a command of the table. -/
theorem payload_of_aCommand {k : BitVec 7} {src : Station} {p : List Byte} (h : aCommand k src p = true) :
    p.length ≤ 24 := by
  simp only [aCommand, Bool.and_eq_true] at h
  exact payload_of_fits h.1.2

/-- So has the payload of a frame. -/
theorem payload_of_aFrame {f : RxFrame} (h : aFrame f = true) : f.payload.length ≤ 24 := by
  simp only [aFrame, Bool.and_eq_true] at h
  exact payload_of_fits h.1

theorem powerReset (station : Station) (slow : Bool) : Statement (.powerReset station slow) := fun _ => Nat.zero_le 24
theorem joinBus : Statement (.joinBus) := fun _ => Nat.zero_le 24
theorem drawerSwitchesSettled (home ext : Bool) : Statement (.drawerSwitchesSettled home ext) := fun _ => Nat.zero_le 24
theorem offerAtIdle : Statement (.offerAtIdle) := fun _ => Nat.zero_le 24
theorem attemptLost : Statement (.attemptLost) := fun _ => Nat.zero_le 24
theorem commandAck (frame : RxFrame) : Statement (.commandAck frame) := fun h => payload_of_aFrame h
theorem formErrorBreak (error : LineError) : Statement (.formErrorBreak error) := fun _ => Nat.zero_le 24
theorem frameVoided (frame : Option RxFrame) : Statement (.frameVoided frame) := by
  cases frame with
  | none => exact fun _ => Nat.zero_le 24
  | some f => exact fun h => payload_of_aFrame h
theorem quietTimeout : Statement (.quietTimeout) := fun _ => Nat.zero_le 24
theorem busStuck : Statement (.busStuck) := fun _ => Nat.zero_le 24
theorem busStuckRecovered : Statement (.busStuckRecovered) := fun _ => Nat.zero_le 24
theorem ownAttemptCompleted (heard : Bool) : Statement (.ownAttemptCompleted heard) := fun _ => Nat.zero_le 24
theorem ownAlarmCompleted (heard : Bool) : Statement (.ownAlarmCompleted heard) := fun _ => Nat.zero_le 24
theorem ownStatusCompleted (heard : Bool) : Statement (.ownStatusCompleted heard) := fun _ => Nat.zero_le 24
theorem statusPeriod : Statement (.statusPeriod) := fun _ => Nat.zero_le 24
theorem statusReceived (frame : RxFrame) : Statement (.statusReceived frame) := fun h => payload_of_aFrame h
theorem alarmReceived (frame : RxFrame) : Statement (.alarmReceived frame) := fun h => payload_of_aFrame h
theorem reserveReceived (frame : RxFrame) : Statement (.reserveReceived frame) := fun h => payload_of_aFrame h
theorem ownReserveCompleted (heard : Bool) : Statement (.ownReserveCompleted heard) := fun _ => Nat.zero_le 24
theorem releaseReceived (frame : RxFrame) : Statement (.releaseReceived frame) := fun h => payload_of_aFrame h
theorem chuteClaimReceived (frame : RxFrame) (heard : Bool) : Statement (.chuteClaimReceived frame heard) := fun h => payload_of_aFrame h
theorem chuteReleaseReceived (frame : RxFrame) (heard : Bool) : Statement (.chuteReleaseReceived frame heard) := fun h => payload_of_aFrame h
theorem binEmptiedReceived (frame : RxFrame) : Statement (.binEmptiedReceived frame) := fun h => payload_of_aFrame h
theorem forgetReceived (frame : RxFrame) : Statement (.forgetReceived frame) := fun h => payload_of_aFrame h
theorem presenceOnlyFrame (frame : RxFrame) : Statement (.presenceOnlyFrame frame) := fun h => payload_of_aFrame h
theorem peerAbsent (station : Station) : Statement (.peerAbsent station) := fun _ => Nat.zero_le 24
theorem staleTimeout (station : Station) : Statement (.staleTimeout station) := fun _ => Nat.zero_le 24
theorem listenInEnd : Statement (.listenInEnd) := fun _ => Nat.zero_le 24
theorem laneOpen (source : Station) (payload : List Byte) : Statement (.laneOpen source payload) := fun h => payload_of_aCommand h
theorem laneClose (source : Station) (payload : List Byte) : Statement (.laneClose source payload) := fun h => payload_of_aCommand h
theorem dispense (source : Station) (payload : List Byte) : Statement (.dispense source payload) := fun h => payload_of_aCommand h
theorem dispenseMix (source : Station) (payload : List Byte) : Statement (.dispenseMix source payload) := fun h => payload_of_aCommand h
theorem continueDispense (source : Station) (payload : List Byte) : Statement (.continueDispense source payload) := fun h => payload_of_aCommand h
theorem cancel (source : Station) (payload : List Byte) : Statement (.cancel source payload) := fun h => payload_of_aCommand h
theorem drawerOpen (source : Station) (payload : List Byte) : Statement (.drawerOpen source payload) := fun h => payload_of_aCommand h
theorem drawerClose (source : Station) (payload : List Byte) : Statement (.drawerClose source payload) := fun h => payload_of_aCommand h
theorem envelopeCapture (source : Station) (payload : List Byte) : Statement (.envelopeCapture source payload) := fun h => payload_of_aCommand h
theorem envelopeReturn (source : Station) (payload : List Byte) : Statement (.envelopeReturn source payload) := fun h => payload_of_aCommand h
theorem imprintWrite (source : Station) (payload : List Byte) : Statement (.imprintWrite source payload) := fun h => payload_of_aCommand h
theorem imprintField (source : Station) (payload : List Byte) : Statement (.imprintField source payload) := fun h => payload_of_aCommand h
theorem cassetteLoad (source : Station) (payload : List Byte) : Statement (.cassetteLoad source payload) := fun h => payload_of_aCommand h
theorem binSet (source : Station) (payload : List Byte) : Statement (.binSet source payload) := fun h => payload_of_aCommand h
theorem serviceBegin (source : Station) (payload : List Byte) : Statement (.serviceBegin source payload) := fun h => payload_of_aCommand h
theorem serviceEnd (source : Station) (payload : List Byte) : Statement (.serviceEnd source payload) := fun h => payload_of_aCommand h
theorem alarmAck (source : Station) (payload : List Byte) : Statement (.alarmAck source payload) := fun h => payload_of_aCommand h
theorem alarmReset (source : Station) (payload : List Byte) : Statement (.alarmReset source payload) := fun h => payload_of_aCommand h
theorem query (source : Station) (payload : List Byte) (lines : Lines) : Statement (.query source payload lines) := fun h => payload_of_aCommand h
theorem restart (source : Station) (payload : List Byte) (lines : Lines) : Statement (.restart source payload lines) := fun h => payload_of_aCommand h
theorem configLane (source : Station) (payload : List Byte) : Statement (.configLane source payload) := fun h => payload_of_aCommand h
theorem configCassette (source : Station) (payload : List Byte) : Statement (.configCassette source payload) := fun h => payload_of_aCommand h
theorem configBins (source : Station) (payload : List Byte) : Statement (.configBins source payload) := fun h => payload_of_aCommand h
theorem configDone (source : Station) (payload : List Byte) (lines : Lines) : Statement (.configDone source payload lines) := fun h => payload_of_aCommand h
theorem badCommand (source : Station) (kind : BitVec 7) (payload : List Byte) : Statement (.badCommand source kind payload) := by
  intro h
  simp only [Instr.wellFormed, Bool.and_eq_true] at h
  exact payload_of_fits h.1.2
theorem cassetteRemoved (slot : Slot) : Statement (.cassetteRemoved slot) := fun _ => Nat.zero_le 24
theorem cassetteInserted (slot : Slot) : Statement (.cassetteInserted slot) := fun _ => Nat.zero_le 24
theorem transportStall (path : PathCount) : Statement (.transportStall path) := fun _ => Nat.zero_le 24
theorem baselineGateClosed (path : PathCount) (cyclesL cyclesR : Nat) : Statement (.baselineGateClosed path cyclesL cyclesR) := fun _ => Nat.zero_le 24
theorem edgeCovered (path : PathCount) : Statement (.edgeCovered path) := fun _ => Nat.zero_le 24
theorem mispick (path : PathCount) : Statement (.mispick path) := fun _ => Nat.zero_le 24
theorem noteGateClosed (path : PathCount) (cyclesL cyclesR : Nat) : Statement (.noteGateClosed path cyclesL cyclesR) := fun _ => Nat.zero_le 24
theorem trailingEdge (path : PathCount) : Statement (.trailingEdge path) := fun _ => Nat.zero_le 24
theorem longObject (path : PathCount) : Statement (.longObject path) := fun _ => Nat.zero_le 24
theorem exitArrival (path : PathCount) (side : Side) : Statement (.exitArrival path side) := fun _ => Nat.zero_le 24
theorem noExit (path : PathCount) : Statement (.noExit path) := fun _ => Nat.zero_le 24
theorem exitBlocked (path : PathCount) : Statement (.exitBlocked path) := fun _ => Nat.zero_le 24
theorem purgeDone (path : PathCount) : Statement (.purgeDone path) := fun _ => Nat.zero_le 24
theorem suspendTimeout : Statement (.suspendTimeout) := fun _ => Nat.zero_le 24
theorem trayChange (covered : Bool) : Statement (.trayChange covered) := fun _ => Nat.zero_le 24
theorem transferStrokeEnd (lines : Lines) : Statement (.transferStrokeEnd lines) := fun _ => Nat.zero_le 24
theorem returnLoadTimeout (lines : Lines) : Statement (.returnLoadTimeout lines) := fun _ => Nat.zero_le 24
theorem drawerExtended : Statement (.drawerExtended) := fun _ => Nat.zero_le 24
theorem drawerHome (lines : Lines) : Statement (.drawerHome lines) := fun _ => Nat.zero_le 24
theorem drawerMotionTimeout (lines : Lines) : Statement (.drawerMotionTimeout lines) := fun _ => Nat.zero_le 24
theorem safetyEdgePressed : Statement (.safetyEdgePressed) := fun _ => Nat.zero_le 24
theorem safetyEdgeCleared : Statement (.safetyEdgeCleared) := fun _ => Nat.zero_le 24
theorem obstructionWaitEnd : Statement (.obstructionWaitEnd) := fun _ => Nat.zero_le 24
theorem trayEmptyTimeout : Statement (.trayEmptyTimeout) := fun _ => Nat.zero_le 24
theorem takeTimeout : Statement (.takeTimeout) := fun _ => Nat.zero_le 24
theorem depositTimeout : Statement (.depositTimeout) := fun _ => Nat.zero_le 24
theorem sweepEnd : Statement (.sweepEnd) := fun _ => Nat.zero_le 24
theorem intakeLeadingEdge (pulses : Nat) : Statement (.intakeLeadingEdge pulses) := fun _ => Nat.zero_le 24
theorem notDrawn (pulses : Nat) (lines : Lines) : Statement (.notDrawn pulses lines) := fun _ => Nat.zero_le 24
theorem printWindowOpen (pulses : Nat) : Statement (.printWindowOpen pulses) := fun _ => Nat.zero_le 24
theorem printStrobe (microseconds : Nat) (hot : Bool) : Statement (.printStrobe microseconds hot) := fun _ => Nat.zero_le 24
theorem intakeTrailingEdge (pulses : Nat) : Statement (.intakeTrailingEdge pulses) := fun _ => Nat.zero_le 24
theorem intakeTooLong (pulses : Nat) : Statement (.intakeTooLong pulses) := fun _ => Nat.zero_le 24
theorem envelopeSeated (pulses : Nat) (lines : Lines) : Statement (.envelopeSeated pulses lines) := fun _ => Nat.zero_le 24
theorem seatTimeout (pulses : Nat) : Statement (.seatTimeout pulses) := fun _ => Nat.zero_le 24
theorem reversalEnd (pulses : Nat) (lines : Lines) : Statement (.reversalEnd pulses lines) := fun _ => Nat.zero_le 24
theorem reverseTimeout (pulses : Nat) : Statement (.reverseTimeout pulses) := fun _ => Nat.zero_le 24
theorem intakeStall (pulses : Nat) : Statement (.intakeStall pulses) := fun _ => Nat.zero_le 24
theorem ejectEnd (pulses : Nat) (lines : Lines) : Statement (.ejectEnd pulses lines) := fun _ => Nat.zero_le 24
theorem ejectTimeout (pulses : Nat) (lines : Lines) : Statement (.ejectTimeout pulses lines) := fun _ => Nat.zero_le 24
theorem clearRunEnd (pulses : Nat) (lines : Lines) : Statement (.clearRunEnd pulses lines) := fun _ => Nat.zero_le 24
theorem clearRunTimeout (pulses : Nat) (stalled : Bool) : Statement (.clearRunTimeout pulses stalled) := fun _ => Nat.zero_le 24
theorem gatePulse : Statement (.gatePulse) := fun _ => Nat.zero_le 24
theorem gateTimeout : Statement (.gateTimeout) := fun _ => Nat.zero_le 24
theorem fairnessWaitEnd : Statement (.fairnessWaitEnd) := fun _ => Nat.zero_le 24
theorem loopChange (loop : Slot) (cls : LoopClass) : Statement (.loopChange loop cls) := fun _ => Nat.zero_le 24
theorem sirenToggle : Statement (.sirenToggle) := fun _ => Nat.zero_le 24
theorem sirenTimeout : Statement (.sirenTimeout) := fun _ => Nat.zero_le 24
theorem serviceTimeout : Statement (.serviceTimeout) := fun _ => Nat.zero_le 24

end Sys2Proof.Laws.Carried
end

