-- ==== Sys2Proof/Tests/Slice0.lean ====
section
/-!
SUPPORT. Small tests: ill-formed commands refused, the spec's worked examples, single steps on small states, and for each statement with
premises a state and operands that meet them, clause by clause and at the bounds of its ranges. Expected values come from the text
named in each docstring or from hand calculation.
-/

namespace Sys2Proof.Tests

open Sys2Proof Sys2Proof.Machine

/-! ### Well-formed commands -/

/-- A broadcast of another lane with its length and CRC. -/
def heardFrame (payload : List Byte) : RxFrame := broadcast 0 2 1 payload

/-- A payload of more than 24 bytes fits no frame, and a payload is as long as its frame announces (R159). -/
theorem test_long_payload_is_refused :
    (Instr.alarmReceived (heardFrame (List.replicate 25 0))).wellFormed = false
    ∧ (Instr.alarmReceived (heardFrame (List.replicate 24 0))).wellFormed = true
    ∧ (Instr.frameVoided (some { heardFrame [0] with length := 2 })).wellFormed = false
    ∧ (Instr.frameVoided none).wellFormed = true := by decide

/-- A command comes from a console (R172). -/
theorem test_command_of_a_lane_is_refused :
    (Instr.laneOpen 5 [1]).wellFormed = false ∧ (Instr.laneOpen 13 [1]).wellFormed = true := by decide

/-- A command carries a tag (R173). -/
theorem test_command_without_tag_is_refused : (Instr.laneOpen 0 []).wellFormed = false := by decide

/-- A command has the length of its kind (R173). -/
theorem test_wrong_length_is_refused :
    (Instr.dispense 0 [1, 0, 0, 0]).wellFormed = false ∧ (Instr.dispense 0 [1, 0, 0, 0, 5]).wellFormed = true := by decide

/-- A command of the table's kinds and lengths is no BAD_COMMAND (R173). -/
theorem test_good_command_is_no_bad_command :
    (Instr.badCommand 0 16 [1]).wellFormed = false ∧ (Instr.badCommand 0 16 [1, 2]).wellFormed = true
    ∧ (Instr.badCommand 0 99 [1]).wellFormed = true := by decide

/-- Station 15 has no record (R127). -/
theorem test_no_record_of_station_15 :
    (Instr.peerAbsent 15).wellFormed = false ∧ (Instr.staleTimeout 15).wellFormed = false
    ∧ (Instr.peerAbsent 14).wellFormed = true := by decide

/-- The table gives no row bits, so no word spells a command. -/
theorem test_no_word_spells_a_command : decodeTableWord 16 0 = none ∧ decodeTableWord 0 7 = none := by decide

/-! ### The spec's worked examples -/

/-- The bits of the digits 1 to 9 in ASCII, the usual check input of this CRC (polynomial x^16 + x^12 + x^5 + 1, all bits set, no
final inversion), give 29B1H. -/
theorem test_crc_check_value :
    crcOf (([0x31, 0x32, 0x33, 0x34, 0x35, 0x36, 0x37, 0x38, 0x39] : List Byte).flatMap bitsMsbFirst) = 0x29B1#16 := by
  decide +kernel

/-- The four records of worked mixes 1 and 2 of chapter 1, by (denomination, count) for slots 1 to 4. -/
def cassettes (a b c d : Nat × Nat) : Four Cassette :=
  let one := fun (p : Nat × Nat) => casJudge { Cassette.reset with denomination := p.1, count := p.2, loaded := p.2, present := true }
  ⟨one a, one b, one c, one d⟩

/-- Worked mix 1: 360 units of 40 × 20, 3 × 50, an empty slot and 2 × 100 are 3, 2, 0 and 2 notes. -/
theorem test_worked_mix_1 :
    (findMix (cassettes (20, 40) (50, 3) (10, 0) (100, 2)) 360 200).map Mix.detail = some [3, 2, 0, 2] := by decide

/-- Worked mix 2: 1,000 units of 100 × 20 and 5 × 50 need 44 notes, too many for 40 and right for 60. -/
theorem test_worked_mix_2 :
    findMix (cassettes (20, 100) (50, 5) (0, 0) (0, 0)) 1000 40 = none
    ∧ (findMix (cassettes (20, 100) (50, 5) (0, 0) (0, 0)) 1000 60).map Mix.detail = some [40, 4, 0, 0] := by decide

/-- A list with two splits (chapter 3): B = 15, 4 notes of slot 2 and 40 of slot 1. -/
theorem test_list_with_two_splits :
    (buildList 15 15 [(.two, 4), (.one, 40)]).map (fun e => (e.kind, e.wanted))
      = [(.pick, 4), (.pick, 11), (.present, 0), (.pick, 15), (.present, 0), (.pick, 14), (.presentFinal, 0)] := by decide

/-- Worked measurements, a single note: T = 31 on both channels, ONE against 256, and both references learn 255. -/
theorem test_single_note :
    (thickness 12000 11640, thickness 11800 11446) = (31, 31) ∧ channelClass 31 256 = .one ∧ learn 256 31 = 255 := by decide

/-- Worked measurements, a double: 61 and 62, both TWO against 255, DOUBLE. -/
theorem test_double :
    (thickness 12000 11280, thickness 11800 11090) = (61, 62)
    ∧ gaugeClass (channelClass 61 255) (channelClass 62 255) = .double := by decide

/-- Worked measurements, a fold and a thin torn note. -/
theorem test_fold_and_thin :
    gaugeClass (channelClass 30 255) (channelClass 66 255) = .folded
    ∧ gaugeClass (channelClass 31 255) (channelClass 14 255) = .thin
    ∧ rejectReason (some .thin) (lengthClass 280 300) = some .thin := by decide

/-- Worked measurements, a chain of two: CHAINED with estimate 2; the OK band of 300 is 288 to 312 (R33). -/
theorem test_chain_and_band :
    rejectReason (some .single) (lengthClass 410 300) = some .chained ∧ lengthEstimate (lengthClass 410 300) = 2
    ∧ lengthClass 288 300 = .ok ∧ lengthClass 312 300 = .ok ∧ lengthClass 287 300 = .short ∧ longLimit 300 = 640 := by decide

/-- The example of R102, lane 7 with number 4,321: the dash of "07-004321" at start 30 fills columns 42 to 46, column 47 is blank. -/
theorem test_imprint_field :
    imageByte 7 { raster := Vector.replicate 768 0xFF, page := 6, col := 30, seq := 4321 } 6 42 = 0x08
    ∧ imageByte 7 { raster := Vector.replicate 768 0xFF, page := 6, col := 30, seq := 4321 } 6 47 = 0
    ∧ imageByte 7 { raster := Vector.replicate 768 0xFF, page := 6, col := 30, seq := 4321 } 6 84 = 0xFF := by
  decide +kernel

/-! ### Small states -/

/-- Lane 1 in a lane state, its dispense engine IDLE and its drawer settled. -/
def lane (l : LaneState) : State :=
  { State.reset with lsv.lane := l, dsp.state := .idle, drw.settled := true, lines.home := true }

/-- An OPEN lane owned by console 0, with the cassettes of worked mix 1. -/
def openLane : State :=
  { lane .opened with cmd.owner := some 0, cas := cassettes (20, 40) (50, 3) (10, 0) (100, 2), dsp.rejectCap := 62 }

/-- A lane that has acknowledged a command frame. -/
def acked (source : Station) (kind : BitVec 7) (payload : List Byte) (s : State) : State :=
  { s with cmd.acked := some { source := source, kind := kind, payload := payload },
           biu.fifo := s.biu.fifo ++ [.reserved .reply] }

/-- A command acknowledged outside STARTING is taken. -/
theorem taken_acked (source : Station) (kind : BitVec 7) (payload : List Byte) (s : State) (h : s.joined = true) :
    Taken (acked source kind payload s) source kind payload := ⟨h, rfl⟩

/-- A state with an attempt of an item in transmission. -/
def sends (item : OfferItem) (s : State) : State :=
  { s with biu.attempt := some { item := item, cls := 0, dest := 15, kind := 1, payload := [0, 0, 0, 6], crc := 0 } }

/-- The records of a peer table with one of them set. -/
def withPeer (n : Station) (f : Peer → Peer) (s : State) : State := setPeer n f s

/-- An envelope record. -/
def envelope (seq : Nat) (st : EnvState) : EnvRec :=
  { seq := seq, length := 300, quality := .full, skipped := 0, recovered := false, state := st }

/-- A transport in a state with its records. -/
def path (st : NtgState) (records : List ObjRec) (s : State) : State := { s with ntg.state := st, ntg.records := records }

/-- An object past the gauge on its way to an exit. -/
def gone (route : Side) (outcome : ObjOutcome) : ObjRec :=
  { pickedRecord .one with stage := .pastGauge, sinceTrail := some 80, route := some route, outcome := some outcome, estimate := some 1 }

/-- An object at the gauge, so many pulses after its leading edge. -/
def gauged (lead : Nat) : ObjRec := { pickedRecord .one with stage := .atGauge, sinceLead := some lead }

/-- An intake in a state with a record. -/
def intake (st : InkState) (r : IntakeRec) (s : State) : State := { s with ink.state := st, ink.record := r }

/-- The record of an item so many pulses after roller start and leading edge. -/
def item (start : Nat) (lead : Option Nat) : IntakeRec :=
  { IntakeRec.fresh .intake with sinceStart := start, sinceLead := lead }

/-- A print window on an empty raster. -/
def window : PrintWindow := { raster := Vector.replicate 768 0, page := 8, col := 0, seq := 1 }

/-- A kind set. -/
def tamper : AlarmSet := { AlarmSet.empty with tamper := true }

/-- A drawer in a state with a purpose. -/
def drawer (st : DrwState) (purpose : Purpose) : State := { openLane with drw.state := st, drw.purpose := purpose }

/-- What a step answers, if it answers a next state. -/
def after (c : Instr) (s : State) : Option State :=
  match exec c s with
  | .next t => some t
  | .fault _ => none
  | .refused _ => none

/-! ### Witnesses

Each theorem names a statement and shows states and operands that meet the premises of its clauses, in order. -/

/-- Each kind of timer at 0 and in force is due, and is due before the kinds that follow it in the list. -/
theorem test_premises_IdleStep_due :
    dueExpiry { State.reset with pt.statusTimer := some 0, pt.listenIn := some 0 } = some .statusPeriod
    ∧ dueExpiry { State.reset with pt.statusTimer := some 0, biu.stuck := true } = none
    ∧ dueExpiry (withPeer 3 (fun p => { p with present := true, age := 1000, stale := some 0 }) State.reset) = some (.peerAbsent 3)
    ∧ dueExpiry (withPeer 3 (fun p => { p with present := true, age := 999, stale := some 0 }) State.reset) = some (.staleTimeout 3)
    ∧ dueExpiry { openLane with pt.listenIn := some 0, dsp.suspendTimer := some 0 } = some .listenInEnd
    ∧ dueExpiry { openLane with dsp.state := .suspended, dsp.suspendTimer := some 0, drw.take := some 0 } = some .suspendTimeout
    ∧ dueExpiry { drawer .extending .notes with drw.phase := .load, drw.stroke := some 0, drw.load := some 0 }
      = some (.transferStrokeEnd (drawer .extending .notes).lines)
    ∧ dueExpiry { drawer .extending .ret with drw.phase := .load, drw.load := some 0, drw.motion := some 0 }
      = some (.returnLoadTimeout (drawer .extending .ret).lines)
    ∧ dueExpiry { drawer .retracting .notes with drw.motion := some 0, drw.trayEmpty := some 0 }
      = some (.drawerMotionTimeout (drawer .retracting .notes).lines) := by decide +kernel

/-- The later kinds of timer, of the drawer, the chute, the siren and the service visit. -/
theorem test_premises_IdleStep_later :
    dueExpiry { drawer .opened .notes with drw.mode := .waiting, drw.obstruct := some 0, drw.take := some 0 } = some .obstructionWaitEnd
    ∧ dueExpiry { drawer .opened .notes with drw.take := some 0, drw.deposit := some 0 } = some .takeTimeout
    ∧ dueExpiry { drawer .opened .deposit with drw.deposit := some 0, drw.sweep := some 0 } = some .depositTimeout
    ∧ dueExpiry { drawer .closed .notes with drw.sweep := some 0, pkt.fairness := some 0 } = some .sweepEnd
    ∧ dueExpiry { openLane with pkt.chute := .launched, pkt.gate := some 0, pkt.fairness := some 0 } = some .gateTimeout
    ∧ dueExpiry { openLane with pkt.fairness := some 0, alm.sirenToggle := some 0 } = some .fairnessWaitEnd
    ∧ dueExpiry { openLane with alm.sirenToggle := some 0, alm.sirenTimer := some 0 } = some .sirenToggle
    ∧ dueExpiry { lane .service with lsv.serviceTimer := some 0 } = some .serviceTimeout
    ∧ dueExpiry { openLane with lsv.serviceTimer := some 0 } = none := by decide +kernel

theorem test_premises_IdleStep :
    State.reset.pending = [] ∧ dueExpiry State.reset = none
    ∧ dueExpiry { State.reset with biu.quiet := some 0 } = some .quietTimeout
    ∧ dueExpiry { State.reset with drw.trayEmpty := some 0 } = some .trayEmptyTimeout
    ∧ dueExpiry { State.reset with alm.sirenTimer := some 0 } = some .sirenTimeout
    ∧ dueExpiry { State.reset with alm.sirenTimer := some 1 } = none
    ∧ { openLane with biu.quiet := some 1 }.biu.quiet ≠ none ∧ openLane.biu.stuck = false := by decide

theorem test_premises_JoinAndSwitches :
    State.reset.lsv.lane = .starting ∧ isLane State.reset.lsv.station = true ∧ isLane 12 = true
    ∧ (State.powerOn 13 false).lsv.lane = .starting ∧ isLane (State.powerOn 13 false).lsv.station = false ∧ isLane 0 = false
    ∧ State.reset.drw.settled = false ∧ openLane.drw.settled = true := by decide

/-- A lane that has another lane recorded as chute holder. -/
def held : State := withPeer 2 (fun p => { p with holder := true }) openLane

/-- What is left of a wall queue with a holder recorded, for a claim alone and before each kind of frame. -/
theorem test_premises_OfferTakesTheFirstItem :
    (∀ q : List WallItem, q = [.reserve 16777215] ∨ q = [.release 1] ∨ q = [.chuteRelease true] ∨ q = [] →
        (q : List WallItem).dropWhile (fun w => decide (w = .claim)) = q
        ∧ ((.claim :: q : List WallItem).dropWhile (fun w => decide (w = .claim))) = q
        ∧ { openLane with biu.wallQueue := q }.biu.wallQueue = q)
    ∧ State.reset.maySend = false ∧ openLane.maySend = true ∧ held.maySend = true
    ∧ { openLane with biu.alarmFlag := true }.biu.alarmFlag = true ∧ openLane.holderRecorded = false ∧ held.holderRecorded = true
    ∧ { openLane with biu.wallQueue := [.claim] }.biu.wallQueue = [.claim]
    ∧ openLane.biu.fifo = [] ∧ (acked 0 16 [1] openLane).biu.fifo = [.reserved .reply]
    ∧ openLane.biu.statusFlag = false ∧ { openLane with biu.statusFlag := true }.biu.statusFlag = true
    ∧ openLane.ownExposure ≤ 16777215 ∧ openLane.pt.view = none ∧ openLane.pkt.pocket.length ≤ 4 := by
  refine ⟨?_, by decide⟩
  rintro q (rfl | rfl | rfl | rfl) <;> decide

/-- A dispense whose RESERVE is in transmission, with an end reason recorded or none, and a restart that waits for it or none. -/
def reserving (reason : Option EndReason) (restarts : List (Station × Byte)) : State :=
  sends (.wall (.reserve 5))
    { openLane with dsp.state := .reserving, dsp.amount := 5, dsp.pendingEnd := reason, lsv.heldRestarts := restarts }

/-- A broadcast sampled with a CRC bit wrong. -/
def garbled : RxFrame := { heardFrame [0] with crc := (heardFrame [0]).crc ^^^ 1 }

/-- A frame that announces a length of so much. -/
def long (length : BitVec 6) : RxFrame := { garbled with length := length }

/-- A length of 24 is no form error, one of 25 is; the void counts 14 and 15; with a reason recorded, with and without a held restart. -/
theorem test_premises_LostAndVoidedAttempts :
    (∀ item : OfferItem, item = .alarm ∨ item = .fifo ⟨56, 0, []⟩ ∨ item = .status ∨ item = .wall (.release 5)
        ∨ item = .wall .claim ∨ item = .wall (.chuteRelease true) ∨ item = .wall (.reserve 5) →
        (sends item openLane).biu.attempt.map (fun a => a.item) = some item)
    ∧ (reserving none []).dsp.state = .reserving ∧ (reserving none []).dsp.pendingEnd = none
    ∧ (reserving (some .cancelled) []).dsp.pendingEnd = some .cancelled ∧ (reserving (some .cancelled) []).lsv.heldRestarts = []
    ∧ (reserving (some .restart) [(0, 7)]).lsv.heldRestarts ≠ []
    ∧ (sends .alarm openLane).joined = true ∧ (sends .alarm openLane).biu.stuck = false
    ∧ MayAnswer (sends .alarm openLane) ∧ ¬ FormErrorIn (long 24) ∧ FormErrorIn (long 25)
    ∧ ¬ MayAnswer { sends .alarm openLane with biu.broken := true } ∧ { sends .alarm openLane with biu.broken := true }.joined = true
    ∧ { sends .alarm openLane with biu.voidCount := 14 }.biu.voidCount + 1 < 16
    ∧ { sends .alarm openLane with biu.voidCount := 15 }.biu.voidCount = 15
    ∧ (sends (.wall .claim) { openLane with pkt.chute := .claiming }).pkt.chute = .claiming
    ∧ (sends (.wall (.chuteRelease true)) { openLane with pkt.chute := .releasing }).pkt.chute = .releasing := by
  refine ⟨?_, by unfold MayAnswer FormErrorIn; decide +kernel⟩
  rintro item (rfl | rfl | rfl | rfl | rfl | rfl | rfl) <;> decide

/-- A clean broadcast, one whose CRC does not match, lengths of 24 and 25; the void counts 14 and 15, and with a RESERVE queued. -/
theorem test_premises_VoidsQuietAndStuck :
    openLane.joined = true ∧ openLane.biu.attempt = none ∧ MayAnswer openLane
    ∧ ¬ FormErrorIn (heardFrame [0]) ∧ rxCrc (heardFrame [0]) = (heardFrame [0]).crc ∧ (heardFrame [0]).dest = 15
    ∧ { heardFrame [0] with dest := 3 }.dest ≠ 15
    ∧ Answers openLane garbled .object ∧ ¬ FormErrorIn (long 24) ∧ Answers openLane (long 25) .lineBreak
    ∧ Answers openLane { heardFrame [0] with formError := true } .lineBreak
    ∧ { openLane with biu.voidCount := 14 }.biu.voidCount + 1 < 16 ∧ { openLane with biu.voidCount := 15 }.biu.voidCount = 15
    ∧ openLane.dsp.state ≠ .reserving
    ∧ { openLane with biu.voidCount := 15, dsp.state := .reserving, dsp.reservation := .queued }.dsp.reservation = .queued
    ∧ ¬ MayAnswer { openLane with biu.broken := true } ∧ ¬ MayAnswer { openLane with biu.stuck := true }
    ∧ ¬ MayAnswer { openLane with biu.quiet := some 0 } ∧ State.reset.joined = false
    ∧ { openLane with pt.statusTimer := some 0 }.pt.statusTimer = some 0 := by
  unfold Answers MayAnswer FormErrorIn; and_intros <;> decide +kernel

theorem test_premises_OwnFramesComplete :
    ∀ i : OfferItem, i = .alarm ∨ i = .status ∨ i = .fifo ⟨56, 0, []⟩ ∨ i = .wall (.release 5) →
      (sends i openLane).biu.attempt.map (fun a => a.item) = some i := by
  rintro i (rfl | rfl | rfl | rfl) <;> decide

/-- At a limit of 100 an entry of 60 elsewhere leaves 40: the sum is at the limit for 40 and above it for 41, with no reason recorded
and with one, and with a restart that waits. -/
theorem test_premises_ReservationCheck :
    (∀ n, n = 40 ∨ n = 41 → (sends (.wall (.reserve n)) { openLane with dsp.state := .reserving, pt.wallLimit := 100 }).dsp.state
      = .reserving)
    ∧ exposureSum (setOwnExposure 40 (withPeer 2 (fun p => { p with exposure := 60 }) openLane)).pt.peers = 100
    ∧ exposureSum (setOwnExposure 41 (withPeer 2 (fun p => { p with exposure := 60 }) openLane)).pt.peers = 101
    ∧ openLane.pt.wallLimit = 0 ∧ openLane.lsv.heldRestarts = [] ∧ openLane.ntg.state = .idle ∧ openLane.ntg.edge = false
    ∧ { openLane with ntg.edge := true }.ntg.edge = true ∧ (path .purge [] openLane).ntg.state ≠ .idle
    ∧ { openLane with pt.wallLimit := 100 }.pt.wallLimit ≠ 0
    ∧ (reserving (some .lockdown) []).dsp.pendingEnd = some .lockdown ∧ (reserving (some .lockdown) []).lsv.heldRestarts = []
    ∧ (reserving (some .restart) [(0, 7)]).dsp.pendingEnd = some .restart ∧ (reserving (some .restart) [(0, 7)]).lsv.heldRestarts ≠ [] := by
  refine ⟨?_, by decide⟩
  rintro n (rfl | rfl) <;> decide

/-- A lane whose oldest envelope waits for capture, and whose view is below the capacity. -/
def claims : State :=
  { openLane with pkt.chute := .claiming, pkt.pocket := [envelope 1 .captureWait], pt.view := some 99, biu.wallQueue := [.claim] }

theorem test_premises_ChuteFrames :
    (sends (.wall .claim) claims).joined = true ∧ isLane claims.lsv.station = true ∧ claims.pkt.chute = .claiming
    ∧ claims.holderRecorded = false ∧ claims.launchOk = true ∧ { claims with pt.view := some 100 }.launchOk = false
    ∧ (broadcast 1 1 10 []).source = claims.lsv.station ∧ held.ownHolder = false
    ∧ { openLane with pkt.chute := .releasing }.pkt.chute = .releasing ∧ (broadcast 1 1 11 [1]).payload = be1 true.toNat
    ∧ (2 : Station) ≠ openLane.lsv.station ∧ isLane 2 = true ∧ isLane 12 = true ∧ held.holderRecorded = true
    ∧ { claims with pkt.chute := .none }.launchOk = true ∧ { claims with pkt.fairness := some 0 }.pkt.fairness ≠ none
    ∧ claims.sending ≠ some .claim ∧ (sends (.wall .claim) claims).sending = some .claim
    ∧ { claims with pkt.chute := .launched }.pkt.chute = .launched := by decide

/-- A LANE_OPEN from console 0 to lane 1, as the lane has sampled it. -/
def frame (kind : BitVec 7) (crc : BitVec 16) : RxFrame :=
  { cls := 2, source := 0, dest := 1, kind := kind, length := 1, payload := [7], crc := crc, formError := false }

/-- The CRC of a command frame that matches it. -/
def matching (kind : BitVec 7) : RxFrame := frame kind (rxCrc (frame kind 0))

theorem test_premises_CommandAckReserves :
    (∀ k : BitVec 7, k = 16 ∨ k = 34 → (matching k).cls = 2 ∧ (matching k).dest = openLane.lsv.station
      ∧ isConsole (matching k).source = true ∧ (matching k).payload ≠ [] ∧ rxCrc (matching k) = (matching k).crc
      ∧ ¬ FormErrorIn (matching k) ∧ (matching k).kind = k)
    ∧ (∀ n, n = 6 ∨ n = 7 ∨ n = 8 →
        (dropReservations { openLane with biu.fifo := List.replicate n (.frame ⟨56, 0, []⟩) }).biu.fifo.length = n)
    ∧ MayAnswer openLane ∧ { matching 16 with cls := 3 }.cls ≠ 2 ∧ ¬ FormErrorIn { matching 16 with length := 24 }
    ∧ FormErrorIn { matching 16 with length := 25 } ∧ ¬ MayAnswer State.reset := by
  unfold MayAnswer FormErrorIn
  refine ⟨?_, ?_, by decide⟩
  · rintro k (rfl | rfl) <;> decide +kernel
  · rintro n (rfl | rfl | rfl) <;> decide

/-- A broadcast and a frame to station 3, frames in error of both kinds, and those the lane answers and does not answer. -/
theorem test_premises_PresenceAndExposureFrames :
    openLane.joined = true ∧ (2 : Station) ≠ openLane.lsv.station ∧ isLane 2 = true ∧ isLane 13 = false
    ∧ ([0, 0] : List Byte).length ≠ 3 ∧ (List.replicate 24 (0 : Byte)).length ≤ 24 ∧ (1 : Station) = openLane.lsv.station
    ∧ rxCrc (matching 16) = (matching 16).crc ∧ ¬ FormErrorIn (matching 16) ∧ { matching 16 with dest := 3 }.dest ≠ 15
    ∧ (matching 16).source ≠ openLane.lsv.station ∧ { matching 16 with source := 1 }.source = openLane.lsv.station
    ∧ MayAnswer openLane ∧ FormErrorIn (long 25) ∧ ¬ FormErrorIn (long 24) ∧ rxCrc garbled ≠ garbled.crc
    ∧ openLane.biu.attempt = none ∧ (sends .alarm openLane).biu.attempt ≠ none
    ∧ ¬ MayAnswer { openLane with biu.broken := true } ∧ State.reset.joined = false := by
  unfold MayAnswer FormErrorIn; decide +kernel

/-- A STATUS with every field 0, and the same with the holder flag and with the "capture count known" flag. -/
def status (flags : Byte) : List Byte := [0, 0, 0, flags, 0, 0, 0, 3, 232, 0, 0, 0]

theorem test_premises_AlarmAndStatusFrames :
    openLane.joined = true ∧ (2 : Station) ≠ openLane.lsv.station
    ∧ isLane 2 = true ∧ isConsole 13 = true ∧ (0x0F : Byte) &&& 0xF0 = 0 ∧ readableStatus (status 0) = true
    ∧ statusHolds (status 0) = false ∧ readableStatus (status 0x90) = true ∧ statusHolds (status 0x90) = true
    ∧ (peerAt openLane.pt.peers 2).holder = false ∧ (peerAt held.pt.peers 2).holder = true
    ∧ { openLane with pt.view := some 0 }.pt.view ≠ none ∧ openLane.pt.view = none
    ∧ ((status 0x10).getD 3 0).getLsbD 4 = true ∧ field (status 0x10) 7 2 = 1000
    ∧ ((status 0).getD 3 0).getLsbD 4 = false ∧ field ((status 0x10).set 8 0xE9) 7 2 = 1001
    ∧ (statusAlarms ((status 0).set 2 0x80) = { AlarmSet.empty with duress := true } ∧ (status 0).length = 12)
    ∧ (readableStatus ((status 0).set 1 0x04) = false ∧ readableStatus ((status 0).set 2 0x01) = false)
    ∧ (readableStatus ((status 0).set 3 0x01) = false ∧ readableStatus ((status 0).set 11 0x08) = false)
    ∧ AlarmSet.ofCode 4 = tamper ∧ (0x10 : Byte) &&& 0xF0 ≠ 0 ∧ ([] : List Byte).length ≠ 1
    ∧ readableStatus [0] = false ∧ readableStatus (List.replicate 24 0) = false
    ∧ openLane.holderRecorded = false ∧ (withPeer 3 (fun p => { p with holder := true }) openLane).holderRecorded = true
    ∧ rxCrc garbled ≠ garbled.crc := by decide +kernel

theorem test_premises_BinForgetAndPeerTimers :
    openLane.joined = true ∧ isConsole 0 = true ∧ (0 : Station) ≠ openLane.lsv.station ∧ (14 : Byte).toNat < 15
    ∧ (14 : Byte).toNat ≠ openLane.lsv.station.toNat ∧ (14 : Byte).toNat ≠ (0 : Station).toNat
    ∧ (peerAt openLane.pt.peers 14).present = false
    ∧ (peerAt (withPeer 14 (fun p => { p with present := true, stale := some 0 }) openLane).pt.peers 14).present = true
    ∧ (14 : Station) ≠ openLane.lsv.station
    ∧ (peerAt (withPeer 14 (fun p => { p with stale := some 0 }) openLane).pt.peers 14).stale = some 0
    ∧ (1 : Byte).toNat = openLane.lsv.station.toNat ∧ rxCrc garbled ≠ garbled.crc
    ∧ { lane .listening with pt.listenIn := some 0 }.listening = true ∧ (lane .listening).lsv.lane = .listening
    ∧ { openLane with pt.listenIn := some 0 }.lsv.lane ≠ .listening := by decide +kernel

theorem test_premises_UntakenAndBadCommands :
    consoleCommand (.laneOpen 0 [1]) = some (0, 16, [1]) ∧ openLane.joined = true
    ∧ openLane.cmd.acked ≠ some { source := 0, kind := 16, payload := [1] } ∧ State.reset.joined = false
    ∧ Taken (acked 0 16 [1, 2] openLane) 0 16 [1, 2] ∧ lengthAllowed 16 2 = false
    ∧ consoleCommand (.badCommand 0 99 [1]) = some (0, 99, [1]) ∧ lengthAllowed 99 1 = false := by
  unfold Taken; decide

/-- Console 0 is the owner of the OPEN lane, console 13 is not, and a lane without an owner passes both. -/
theorem test_premises_owner :
    OpenTo openLane 0 ∧ ¬ OwnerPasses openLane 13 ∧ OwnerPasses (lane .closed) 13 := by
  unfold OpenTo OwnerPasses; decide

/-- The cabinet loop disabled, NORMAL, and opened with and without its latch; a report held and none. -/
theorem test_premises_LaneOpenCloseAndService :
    Taken (acked 13 16 [1] (lane .closed)) 13 16 [1] ∧ (acked 13 16 [1] (lane .closed)).lsv.lane = .closed
    ∧ openLane.lsv.lane ≠ .closed ∧ OwnerPasses openLane 0 ∧ ¬ OwnerPasses openLane 13
    ∧ Taken (acked 0 17 [1] openLane) 0 17 [1] ∧ OpenTo openLane 0 ∧ openLane.dsp.state = .idle ∧ openLane.drw.purpose = .none
    ∧ { openLane with dsp.state := .picking }.dsp.state ≠ .idle
    ∧ Taken (acked 0 30 [1] (lane .closed)) 0 30 [1] ∧ Taken (acked 0 31 [1] (lane .service)) 0 31 [1]
    ∧ (lane .service).lsv.lane = .service ∧ (lane .closed).lsv.lane ≠ .opened
    ∧ { lane .service with alm.serviceWindow := true, lsv.serviceTimer := some 1800000 }.alm.serviceWindow = true
    ∧ { lane .service with lsv.serviceTimer := some 0 }.lsv.serviceTimer ≠ none
    ∧ (lane .service).alm.loops.three.state = .normal ∧ (lane .service).alm.loops.three.enabled = true
    ∧ { lane .service with alm.loops.three.enabled := false }.alm.loops.three.enabled = false
    ∧ { lane .service with alm.loops.three.state := .opened }.alm.loops.three.state ≠ .normal
    ∧ (lane .service).alm.latch.cabinet = false ∧ { lane .service with alm.latch.cabinet := true }.alm.latch.cabinet = true
    ∧ (lane .service).lsv.heldFault = false ∧ { lane .service with lsv.heldFault := true }.lsv.heldFault = true := by
  unfold Taken OpenTo OwnerPasses; decide

/-- With B = 50 the reject margin is 62 and the retract margin 50: capacities of 62 and 50 just leave them, one note less room does
not. -/
theorem test_premises_DispenseRefusalsInOrder :
    Taken (acked 0 18 [1, 0, 0, 0, 5] openLane) 0 18 [1, 0, 0, 0, 5] ∧ (lane .service).lsv.lane = .service
    ∧ (lane .closed).lsv.lane ≠ .opened ∧ { openLane with alm.wall.duress := true }.silent = true
    ∧ { openLane with alm.wall := tamper }.lockdown = true ∧ openLane.silent = false ∧ openLane.lockdown = false
    ∧ { openLane with dsp.state := .purging }.dsp.state ≠ .idle ∧ { openLane with pt.listenIn := some 1 }.listening = true
    ∧ openLane.dsp.state = .idle ∧ openLane.listening = false
    ∧ 61 - openLane.dsp.rejectCount < 12 + openLane.dsp.bundleLimit
    ∧ 12 + openLane.dsp.bundleLimit ≤ openLane.dsp.rejectCap - openLane.dsp.rejectCount
    ∧ openLane.dsp.retractCap - 1 < openLane.dsp.bundleLimit := by
  unfold Taken; decide

/-- The open lane passes every check that opens a dispense. -/
theorem openLane_mayDispense : MayDispense openLane := by
  constructor <;> decide

theorem test_premises_DispenseAccepted :
    ((∀ k, 0 < (⟨10, 1, 0, 2⟩ : Four Nat).get k → (openLane.cas.get k).state.eligible = true)
      ∧ (∀ k, (⟨10, 1, 0, 2⟩ : Four Nat).get k ≤ (openLane.cas.get k).count)
      ∧ (∃ k, 0 < (⟨0, 0, 1, 0⟩ : Four Nat).get k ∧ (openLane.cas.get k).state.eligible = false)
      ∧ (∃ k, (openLane.cas.get k).count < (⟨0, 4, 0, 0⟩ : Four Nat).get k))
    ∧ OpenTo openLane 0 ∧ Taken (acked 0 18 [1, 0, 0, 1, 104] openLane) 0 18 [1, 0, 0, 1, 104]
    ∧ beNat [0, 0, 0, 0] = 0 ∧ beNat [0, 0, 0, 1] = 1 ∧ beNat [0, 0xFF, 0xFF, 0xFF] = 16777215 ∧ beNat [1, 0, 0, 0] = 16777216
    ∧ findMix openLane.cas 360 200 = some [(.four, 2), (.two, 2), (.one, 3)] ∧ findMix openLane.cas 1 200 = none
    ∧ Taken (acked 0 19 [1, 10, 1, 0, 2] openLane) 0 19 [1, 10, 1, 0, 2] ∧ 0 < (⟨10, 1, 0, 2⟩ : Four Nat).toList.sum
    ∧ (⟨100, 100, 0, 0⟩ : Four Nat).toList.sum ≤ 4 * openLane.dsp.bundleLimit
    ∧ 4 * openLane.dsp.bundleLimit < (⟨101, 100, 0, 0⟩ : Four Nat).toList.sum
    ∧ Slot.all.Nodup ∧ (([(.two, 4), (.one, 40)] : Mix).map (fun p => p.1)).Nodup ∧ (15 : Nat) ≤ 15 := by
  refine ⟨⟨?_, ?_, ⟨.three, by decide⟩, ⟨.two, by decide⟩⟩, by unfold Taken OpenTo OwnerPasses; decide⟩ <;> intro k <;> cases k <;> decide

/-- A suspended dispense of 360 units of which 100 are delivered. -/
def suspended : State := { openLane with dsp.state := .suspended, dsp.amount := 360, dsp.delivered := 100, dsp.suspendTimer := some 9 }

theorem test_premises_ContinueAndCancel :
    Taken (acked 0 20 [1] suspended) 0 20 [1] ∧ OpenTo suspended 0 ∧ suspended.silent = false ∧ suspended.dsp.state = .suspended
    ∧ { suspended with alm.wall.duress := true }.silent = true ∧ openLane.dsp.state ≠ .suspended
    ∧ findMix suspended.cas 260 200 = some [(.four, 2), (.two, 0), (.one, 3)] ∧ findMix suspended.cas 5 200 = none
    ∧ Taken (acked 0 21 [1] suspended) 0 21 [1]
    ∧ { openLane with dsp.state := .reserving }.reserveSending = false
    ∧ (sends (.wall (.reserve 5)) { openLane with dsp.state := .reserving }).reserveSending = true
    ∧ { openLane with dsp.state := .stacked }.dsp.state = .stacked
    ∧ { openLane with dsp.state := .presenting, drw.purpose := .notes }.drw.purpose = .notes
    ∧ { openLane with dsp.state := .presenting }.drw.purpose ≠ .notes
    ∧ openLane.dsp.state = .idle := by
  unfold Taken OpenTo OwnerPasses; decide

/-- A free drawer, and one for each row of R78's table. -/
theorem test_premises_DrawerCommands :
    Taken (acked 0 22 [1] openLane) 0 22 [1] ∧ OpenTo openLane 0 ∧ openLane.silent = false ∧ openLane.lockdown = false
    ∧ { openLane with alm.wall := tamper }.lockdown = true ∧ { openLane with alm.wall.duress := true }.silent = true
    ∧ openLane.drawerFree = true ∧ openLane.drw.pendingReq = none
    ∧ { openLane with drw.state := .opened }.drawerFree = false
    ∧ Taken (acked 0 23 [1] openLane) 0 23 [1] ∧ openLane.drw.state = .closed
    ∧ { openLane.drw with state := .extending }.phase = .load
    ∧ { openLane.drw with state := .extending, phase := .travel }.phase = .travel
    ∧ { openLane.drw with state := .opened }.mode = .standing
    ∧ { openLane.drw with state := .opened, mode := .waiting }.safe = false
    ∧ { openLane.drw with state := .opened, mode := .edgeWait, safe := true }.safe = true
    ∧ { openLane.drw with state := .opened, mode := .backingOff }.mode = .backingOff
    ∧ { openLane.drw with state := .retracting }.state = .retracting ∧ { openLane.drw with state := .jammed }.state = .jammed
    ∧ { openLane with drw.pendingReq := some ⟨1, 4, true⟩ }.drawerFree = true
    ∧ { openLane with drw.pendingReq := some ⟨1, 4, true⟩, drw.tray := true }.drw.blocked = false
    ∧ { openLane with drw.pendingReq := some ⟨1, 4, true⟩, drw.tray := true, drw.blocked := true }.drw.blocked = true := by
  unfold Taken OpenTo OwnerPasses; decide

/-- Two envelopes in the pocket and a capture bin with one place left. -/
def pocket : State := { openLane with pkt.pocket := [envelope 5 .inPocket, envelope 6 .inPocket], pt.view := some 99 }

/-- A number of the oldest record, of a newer one and of none; views at 99 and 100 of a capacity of 100. -/
theorem test_premises_EnvelopeCommands :
    OwnerPasses pocket 0 ∧ ¬ OwnerPasses pocket 13 ∧ pocket.pkt.pocket = envelope 5 .inPocket :: [envelope 6 .inPocket]
    ∧ openLane.pkt.pocket = []
    ∧ Taken (acked 0 24 [1, 0, 0, 5] pocket) 0 24 [1, 0, 0, 5] ∧ pocket.ink.state ≠ .jammed ∧ pocket.pt.view = some 99
    ∧ 99 < pocket.pkt.capacity ∧ pocket.pkt.capacity ≤ 100 ∧ beNat [0, 0, 5] = (envelope 5 .inPocket).seq ∧ beNat [0, 0, 0] = 0
    ∧ (∀ r ∈ pocket.pkt.pocket, r.seq ≠ 7) ∧ (∃ r ∈ pocket.pkt.pocket, r.seq = 6) ∧ (envelope 5 .inPocket).seq ≠ 6
    ∧ (∀ r ∈ pocket.pkt.pocket, r.state = .inPocket) ∧ (∀ r ∈ pocket.pkt.pocket, r.state ≠ .returning)
    ∧ pocket.pkt.pocket.filter (fun r => r.state = .inPocket) = [envelope 5 .inPocket] ++ [envelope 6 .inPocket]
    ∧ (envelope 5 .captureWait).state ≠ .inPocket ∧ (envelope 5 .returning).state = .returning
    ∧ (lane .fault).lsv.lane = .fault ∧ (lane .closed).lsv.lane ≠ .fault
    ∧ Taken (acked 0 25 [1, 0, 0, 5] pocket) 0 25 [1, 0, 0, 5] ∧ OpenTo pocket 0
    ∧ { pocket with alm.wall := tamper }.lockdown = true ∧ pocket.drawerFree = true ∧ pocket.drw.pendingReq = none
    ∧ pocket.drw.tray = false ∧ { pocket with drw.tray := true }.drw.tray = true := by
  unfold Taken OpenTo OwnerPasses; decide

/-- The image's pages and columns at their bounds: the field at start column 42 ends with the raster's last column. -/
theorem test_premises_ImprintFieldWindow :
    Taken (acked 0 27 [1, 8, 42] openLane) 0 27 [1, 8, 42] ∧ (8 : Byte).toNat ≤ 8 ∧ (42 : Byte).toNat ≤ 42
    ∧ 42 < (43 : Byte).toNat ∧ 8 < (9 : Byte).toNat ∧ OpenTo openLane 0 ∧ ¬ OwnerPasses openLane 13
    ∧ (lane .service).lsv.lane = .service ∧ (lane .closed).lsv.lane ≠ .opened
    ∧ (intake .drawing (item 60 (some 39)) openLane).ink.record.sinceLead = some 39
    ∧ { intake .drawing (item 60 (some 39)) openLane with ink.sensor := true }.ink.sensor = true ∧ 40 ≤ 39 + 1
    ∧ { window with page := 7, col := 42 }.page < 8 ∧ 95 = { window with page := 7, col := 42 }.col + 6 * 8 + 5
    ∧ window.col + 54 ≤ 54 ∧ window.page ≠ 7 := by
  unfold Taken OpenTo OwnerPasses; decide

/-- The second example of R100: 20 bytes at page 7, column 85 run on to page 0, column 9. -/
theorem test_premises_ImprintWriteStores :
    Taken (acked 0 26 ([1, 7, 85] ++ List.replicate 20 0xAA) openLane) 0 26 ([1, 7, 85] ++ List.replicate 20 0xAA)
    ∧ OpenTo openLane 0 ∧ openLane.ink.state ≠ .printing ∧ (intake .printing (item 0 none) openLane).ink.state = .printing
    ∧ (7 * 96 + 85 + 20) % 768 = 0 * 96 + 9 ∧ 7 < (8 : Byte).toNat ∧ 95 < (96 : Byte).toNat
    ∧ (List.replicate 21 (0 : Byte)).length ≤ 21 ∧ 20 < (List.replicate 21 (0 : Byte)).length := by
  unfold Taken OpenTo OwnerPasses; decide

/-- A SERVICE lane with the cassettes of worked mix 1. -/
def serviced : State := { openLane with lsv.lane := .service, cmd.owner := none }

theorem test_premises_ServiceCounts :
    Taken (acked 0 28 [1, 1, 11, 184] serviced) 0 28 [1, 1, 11, 184] ∧ (1 : Byte).toNat = Slot.one.number
    ∧ OwnerPasses serviced 0 ∧ beNat [11, 184] = 3000 ∧ beNat [11, 185] = 3001 ∧ serviced.lsv.lane = .service
    ∧ (serviced.cas.get .one).state = .ok ∧ (State.reset.cas.get .one).state = .unused ∧ 4 < (5 : Byte).toNat
    ∧ openLane.lsv.lane ≠ .service ∧ ¬ OwnerPasses openLane 13
    ∧ Taken (acked 0 29 [1, 0, 62, 0, 51] serviced) 0 29 [1, 0, 62, 0, 51] := by
  unfold Taken OwnerPasses; decide

theorem test_premises_AlarmCommands :
    Taken (acked 0 32 [1] (lane .awaitConfig)) 0 32 [1] ∧ (lane .awaitConfig).lsv.lane = .awaitConfig
    ∧ { openLane with alm.siren := true }.alm.siren = true ∧ openLane.alm.siren = false
    ∧ Taken (acked 0 33 [1] openLane) 0 33 [1] ∧ openLane.lsv.lane ≠ .awaitConfig
    ∧ stillHeld openLane.alm.loops tamper ≠ tamper ∧ stillHeld openLane.alm.loops AlarmSet.empty = AlarmSet.empty := by
  unfold Taken; decide

/-- A query that names its part and one that names none; the last part of a section and the one after it; before the first
measurement and after it. -/
theorem test_premises_QueryComposesARecord :
    Taken (acked 0 34 [1, 0, 15] openLane) 0 34 [1, 0, 15] ∧ Taken (acked 0 34 [1, 6] openLane) 0 34 [1, 6]
    ∧ sectionParts 255 = none ∧ sectionParts 7 = none ∧ sectionParts 0 = some 16 ∧ 16 ≤ (16 : Byte).toNat ∧ (15 : Byte).toNat < 16
    ∧ sectionParts 6 = some 3 ∧ (2 : Byte).toNat < 3 ∧ openLane.ntg.last = none
    ∧ { openLane with ntg.last := some (lastOf (pickedRecord .one)) }.ntg.last = some (lastOf (pickedRecord .one)) := by
  unfold Taken; decide

/-- A restart in each state of the dispense, the drawer and the transport that its acts tell apart, with and without a service window,
its loop, and a position kept. -/
theorem test_premises_RestartEntersPurging :
    (∀ cls, cls = LoopClass.normal ∨ cls = .opened →
      { lane .service with alm.serviceWindow := true, alm.loops.three.state := cls }.alm.loops.three.enabled = true)
    ∧ (∀ st, st = DrwState.closed ∨ st = .extending ∨ st = .opened ∨ st = .retracting ∨ st = .jammed →
        { openLane with drw.state := st }.drw.state = st)
    ∧ Taken (acked 0 35 [1] (lane .awaitConfig)) 0 35 [1] ∧ Taken (acked 0 35 [1] openLane) 0 35 [1]
    ∧ .reserved .reply ∈ (acked 0 35 [1] openLane).biu.fifo ∧ openLane.lsv.heldRestarts = []
    ∧ openLane.lsv.lane ≠ .awaitConfig ∧ openLane.dsp.state ≠ .reserving ∧ openLane.drw.state ≠ .jammed
    ∧ { openLane with dsp.state := .reserving }.reserveSending = false ∧ (reserving none []).reserveSending = true
    ∧ { openLane with dsp.state := .purging, dsp.dispensing := true }.dsp.dispensing = true
    ∧ { openLane with dsp.state := .purging }.dsp.dispensing = false ∧ { openLane with dsp.state := .stacked }.dsp.state = .stacked
    ∧ { openLane with dsp.state := .presenting }.dsp.state = .presenting ∧ openLane.alm.serviceWindow = false
    ∧ { openLane with drw.state := .jammed }.lines.home = true ∧ openLane.lines.ext = false ∧ Lines.quiet.home = false
    ∧ { openLane with lines.ext := true }.lines.ext = true ∧ { openLane with lines.home := false }.lines.home = false := by
  unfold Taken
  refine ⟨?_, ?_, by decide⟩
  · rintro cls (rfl | rfl) <;> decide
  · rintro st (rfl | rfl | rfl | rfl | rfl) <;> rfl

/-- The fields of CONFIG_LANE with its counts and times at the low or the high end of their ranges, and its enables. -/
def configLane (high : Bool) (enables : Byte) : List Byte :=
  if high then [50, 120, 180, 0, 0, 0, 0, 64, 63, enables, 0x0F, 0x42, 0x3F] else [10, 10, 20, 0, 0, 0, 0, 16, 0, enables, 0, 0, 1]

/-- The fields of CONFIG_CASSETTE for slot 1 at the low or the high end of their ranges. -/
def configCassette (high : Bool) : List Byte :=
  if high then [1, 0, 20, 1, 0x90, 0x1F, 0xF8, 0x1F, 0xF8, 0x0B, 0xB8, 0x0B, 0xB8] else [1, 0, 20, 0, 120, 0, 8, 0, 8, 0, 0, 0, 0]

/-- The payloads' fields at both ends of their ranges and one outside them, and a loop enabled anew in each of its states. -/
theorem test_premises_ConfigurationCommands :
    (∀ high : Bool, (configLane high 0x1F).length = 13 ∧ (configCassette high).length = 13
      ∧ Slot.ofNumber (field (configCassette high) 0 1) = some .one
      ∧ Taken (acked 0 40 (1 :: configLane high 0x1F) (lane .awaitConfig)) 0 40 (1 :: configLane high 0x1F)
      ∧ Taken (acked 0 41 (1 :: configCassette high) (lane .awaitConfig)) 0 41 (1 :: configCassette high))
    ∧ [0, 1, 2, 7, 8].map (fun i => field (configLane false 0x1F) i 1) = [10, 10, 20, 16, 0]
    ∧ [0, 1, 2, 7, 8].map (fun i => field (configLane true 0x1F) i 1) = [50, 120, 180, 64, 63]
    ∧ field (configLane false 0x1F) 10 3 = 1 ∧ field (configLane true 0x1F) 10 3 = 999999
    ∧ [3, 5, 7, 9, 11].map (fun i => field (configCassette false) i 2) = [120, 8, 8, 0, 0]
    ∧ [3, 5, 7, 9, 11].map (fun i => field (configCassette true) i 2) = [400, 8184, 8184, 3000, 3000]
    ∧ Taken (acked 0 40 (1 :: List.replicate 13 0) openLane) 0 40 (1 :: List.replicate 13 0)
    ∧ field (List.replicate 13 0) 0 1 < 10 ∧ Slot.ofNumber (field (List.replicate 13 0) 0 1) = none ∧ Slot.ofNumber 5 = none
    ∧ Taken (acked 0 42 (1 :: List.replicate 10 0) (lane .awaitConfig)) 0 42 (1 :: List.replicate 10 0)
    ∧ field [0, 0, 0, 50, 0, 0, 0, 50, 0, 100] 2 2 = 50 ∧ field [0, 0, 0, 50, 0, 0, 0, 50, 0, 100] 8 2 = 100
    ∧ Taken (acked 0 43 [1] (lane .awaitConfig)) 0 43 [1] ∧ (lane .awaitConfig).lsv.gotLane = false ∧ openLane.lsv.lane ≠ .awaitConfig
    ∧ { lane .awaitConfig with lsv.gotLane := true, lsv.gotBins := true }.lsv.gotBins = true
    ∧ openLane.alm.loops.one.enabled = true ∧ { openLane with alm.loops.one.enabled := false }.alm.loops.one.enabled = false
    ∧ { openLane with alm.loops.three.state := .opened }.alm.loops.three.state = .opened
    ∧ { openLane with alm.serviceWindow := true }.alm.serviceWindow = true
    ∧ { openLane with alm.loops.one.state := .short }.alm.loops.one.state = .short
    ∧ Cassette.reset.denomination = 0 ∧ (State.reset.cas.get .one).present = false
    ∧ [0, 1, 5, 6].map (fun n => (casJudge { openLane.cas.one with count := n, lowMark := 5 }).state) = [.empty, .low, .low, .ok] := by
  unfold Taken
  decide +kernel

/-- A dispense that picks from slot 3, which is EMPTY. -/
def picking (k : Slot) : State :=
  { path .feeding [pickedRecord k] openLane with
    dsp.state := .picking, dsp.pickList := [{ pickEntry k 1 with state := .active }] }

theorem test_premises_CassetteLines :
    (∀ st, st = NtgState.idle ∨ st = .baseline ∨ st = .draining ∨ st = .purge ∨ st = .halted →
      (path st [] (picking .three)).ntg.state = st ∧ (path st [] (picking .three)).dsp.state = .picking) ∧
    (openLane.cas.get .one).present = true ∧ (openLane.cas.get .one).state ≠ .unused
    ∧ (State.reset.cas.get .one).present = false ∧ (State.reset.cas.get .one).state ≠ .absent
    ∧ ({ openLane with cas.one.state := .absent, cas.one.present := false }.cas.get .one).state = .absent
    ∧ ({ State.reset with cas.one.present := true }.cas.get .one).state = .unused
    ∧ openLane.dsp.state ≠ .picking ∧ (picking .three).dsp.withdrawPending = false ∧ (picking .three).ntg.records ≠ []
    ∧ (picking .three).ntg.state = .feeding ∧ (path .feeding [] (picking .three)).ntg.records = []
    ∧ entryIn .active openLane.dsp.pickList = none ∧ (closeEntry .present).kind ≠ .pick
    ∧ { picking .three with dsp.withdrawPending := true }.dsp.withdrawPending = true
    ∧ (entryIn .active (picking .three).dsp.pickList).map (fun e => (e.kind, e.slot)) = some (.pick, .three)
    ∧ ((picking .three).cas.get .three).state.eligible = false ∧ ((picking .one).cas.get .one).state.eligible = true := by
  refine ⟨?_, by decide⟩
  rintro st (rfl | rfl | rfl | rfl | rfl) <;> decide

/-- A path whose exit sensors have been covered for so many pulses. -/
def exits (stacker reject : Option Nat) (s : State) : State := { s with ntg.exitS := stacker, ntg.exitR := reject }

/-- A cassette of nominal length 120 has a long-object limit of 280; an exit covered for 199 pulses blocks with the next one. -/
theorem test_premises_TransportHalts :
    (path .feeding [] openLane).ntg.state.motor = true ∧ (path .purge [] (lane .purging)).ntg.state.motor = true
    ∧ firstOf .atGauge (path .feeding [gauged 280] openLane).ntg.records = some (gauged 280)
    ∧ longLimit (nominalOf openLane.cas (gauged 280).slot) ≤ 280
    ∧ (279 < longLimit (nominalOf openLane.cas (gauged 279).slot) ∧ longLimit (nominalOf openLane.cas none) = 840)
    ∧ gone .reject .reject ∈ (path .feeding [gone .reject .reject] openLane).ntg.records
    ∧ (∀ r ∈ [{ gone .reject .reject with sinceTrail := some 79 }], ∀ m, r.sinceTrail = some m → m < 80)
    ∧ firstOf .atGauge (path .feeding [] openLane).ntg.records = none ∧ openLane.ntg.edge = false
    ∧ (path .halted [gauged 280] openLane).ntg.state.motor = false ∧ openLane.ntg.state.motor = false
    ∧ (ntgAdvance (.plain 3) (path .feeding [gauged 9] openLane).ntg).records.map (fun r => r.sinceLead) = [some 12]
    ∧ (ntgAdvance (.plain 3) (path .halted [gauged 9] openLane).ntg).records.map (fun r => r.sinceLead) = [some 9]
    ∧ { path .feeding [] openLane with ntg.edge := true }.ntg.edge = true
    ∧ (ntgAdvance (.plain 1) (exits (some 199) none (path .feeding [] openLane)).ntg).exitS = some 200
    ∧ (ntgAdvance (.plain 0) (exits none (some 199) (path .feeding [] openLane)).ntg).exitR = some 199
    ∧ (ntgAdvance ⟨300, some 5, none⟩ (exits (some 199) none (path .feeding [] openLane)).ntg).exitS = none
    ∧ (lane .purging).lsv.lane = .purging ∧ (lane .purging).dsp.dispensing = false
    ∧ { lane .purging with dsp.state := .purging }.dsp.state = .purging
    ∧ (lane .listening).lsv.lane = .listening ∧ (lane .service).lsv.lane = .service ∧ (lane .fault).lsv.lane = .fault
    ∧ openLane.dsp.state = .idle ∧ { openLane with dsp.state := .reserving }.reserveSending = false
    ∧ (sends (.wall (.reserve 5)) { openLane with dsp.state := .reserving }).reserveSending = true
    ∧ { openLane with dsp.state := .purging, dsp.dispensing := true }.dsp.dispensing = true
    ∧ { openLane with dsp.state := .suspended }.dsp.state = .suspended := by decide

/-- A dispense with a pick list, its transport in a state. -/
def listed (st : NtgState) (l : List Entry) : State :=
  { path st [] openLane with dsp.state := .picking, dsp.pickList := l }

theorem test_premises_BaselineGate :
    (path .baseline [] { openLane with ntg.sinceStart := 48, dsp.state := .baseline }).ntg.state = .baseline
    ∧ 16 + openLane.ntg.gateLength ≤ 48 + 0 ∧ min 65535 256 = 256 ∧ min 65535 65534 = 65534 ∧ min 65535 70000 = 65535
    ∧ min 65535 255 < 256 ∧ { openLane with dsp.state := .baseline }.dsp.state = .baseline
    ∧ entryIn .pending openLane.dsp.pickList = none
    ∧ entryIn .pending (listed .feeding [pickEntry .one 4]).dsp.pickList = some (pickEntry .one 4)
    ∧ entryIn .pending (listed .feeding [closeEntry .presentFinal]).dsp.pickList = some (closeEntry .presentFinal)
    ∧ (openLane.cas.get .one).state = .ok ∧ (openLane.cas.get .two).state ≠ .empty
    ∧ (openLane.cas.get .three).state ≠ .ok ∧ (openLane.cas.get .three).state ≠ .low
    ∧ { listed .idle [] with ntg.valid := true }.ntg.valid = true ∧ (listed .idle []).ntg.valid = false
    ∧ (listed .halted []).ntg.state = .halted := by decide

/-- A cassette in slot 1 that holds so many notes over a low mark of 5, with so many mispicks in a row. -/
def stocked (count mispicks : Nat) : State :=
  { openLane with
    cas := openLane.cas.set .one (casJudge { openLane.cas.one with count := count, lowMark := 5, mispicks := mispicks }) }

theorem test_premises_EdgeMispickAndGate :
    firstOf .picked [{ pickedRecord .one with sincePick := some 119 }] = some { pickedRecord .one with sincePick := some 119 }
    ∧ firstOf .picked [{ pickedRecord .one with sincePick := some 120 }] = some { pickedRecord .one with sincePick := some 120 }
    ∧ firstOf .picked [] = none ∧ openLane.ntg.edge = false ∧ (path .baseline [] openLane).ntg.state = .baseline
    ∧ { path .feeding [gauged 48] openLane with ntg.edge := true }.ntg.edge = true
    ∧ firstOf .atGauge [gauged 48] = some (gauged 48) ∧ (gauged 48).counts = none ∧ 16 + openLane.ntg.gateLength ≤ 48
    ∧ (gauged 48).slot = some .one
    ∧ ((stocked 9 1).cas.get .one).state = .ok ∧ ((stocked 9 1).cas.get .one).mispicks < 2
    ∧ ((stocked 5 2).cas.get .one).state = .low ∧ 2 ≤ ((stocked 5 2).cas.get .one).mispicks
    ∧ ((stocked 0 2).cas.get .one).state = .empty ∧ (State.reset.cas.get .one).state = .unused
    ∧ ({ openLane with cas.one.state := .absent }.cas.get .one).state = .absent
    ∧ (path .draining [] openLane).ntg.records = [] ∧ (path .draining [gauged 48] openLane).ntg.records ≠ []
    ∧ (path .feeding [] openLane).ntg.state ≠ .draining := by decide

/-- Lengths at the bounds of the OK band of a nominal length of 300, and at the end of the gate. -/
theorem test_premises_TrailingEdges :
    firstOf .atGauge [gauged 120] = some (gauged 120) ∧ (measured openLane.cas 32 (gauged 120)).outcome = some .reject
    ∧ (measured openLane.cas 32 { gauged 120 with gauge := some .single, indices := some (31, 31) }).outcome = some .accept
    ∧ (measured openLane.cas 32 { gauged 120 with gauge := some .single, indices := some (31, 31) }).indices = some (31, 31)
    ∧ (measured openLane.cas 32 (gauged 120)).estimate = some 1 ∧ (gauged 120).estimate = none ∧ unknownRecord.slot = none
    ∧ (gone .reject .reject).estimate ≠ none ∧ (path .purge [gauged 9] (lane .purging)).ntg.state = .purge
    ∧ (287 + 12 < 300 ∧ 300 ≤ 288 + 12 ∧ 312 ≤ 300 + 12 ∧ 300 + 12 < 313) ∧ (48 ≤ 16 + 32 ∧ 16 + 32 < 49)
    ∧ (lengthClass 287 300, lengthClass 288 300, lengthClass 312 300, lengthClass 313 300) = (.short, .ok, .ok, .chained)
    ∧ (measured openLane.cas 32 { gauged 120 with gauge := some .multiple }).gauge = some .multiple
    ∧ (lastOf (measured openLane.cas 32 (gauged 120))).length = 120 ∧ (lastOf (measured openLane.cas 32 (gauged 120))).estimate = 1
    ∧ (purgedEdge openLane.cas unknownRecord).slot = none ∧ (gauged 120).sinceLead = some 120
    ∧ (purgedEdge openLane.cas (gauged 120)).length = some 120 ∧ (purgedEdge openLane.cas (gauged 120)).sinceTrail = some 0
    ∧ ((stocked 1 0).cas.get .one).count ≤ 1 ∧ 1 < ((stocked 2 0).cas.get .one).count ∧ ((stocked 2 0).cas.get .one).state = .low
    ∧ ((stocked 6 0).cas.get .one).state = .ok ∧ 6 - 1 ≤ ((stocked 6 0).cas.get .one).lowMark
    ∧ ((stocked 7 0).cas.get .one).state = .ok ∧ ((stocked 7 0).cas.get .one).lowMark < 7 - 1
    ∧ ((stocked 7 0).cas.get .one).denomination ≠ 0 ∧ ((stocked 7 0).cas.get .one).present = true
    ∧ ((stocked 0 0).cas.get .one).state = .empty ∧ (State.reset.cas.get .one).state = .unused := by
  decide

/-- A dispense whose ACTIVE entry has placed one note of so many. -/
def placing (wanted : Nat) : State := listed .feeding [{ pickEntry .one wanted with done := 1, state := .active }]

/-- A purge run of the start-up over an empty path, with so many notes in a reject bin that holds 50. -/
def purgeRun (rejected : Nat) : State := 
  { path .purge [] (lane .purging) with dsp.state := .purging, dsp.rejectCount := rejected }

theorem test_premises_ExitArrivals :
    (gone .stacker .accept).stage = .pastGauge ∧ (gone .stacker .accept).route = some .stacker
    ∧ (gone .stacker .accept).outcome = some .accept ∧ (gone .reject .reject).route = some .reject
    ∧ (gone .reject .reject).outcome = some .reject
    ∧ firstOf .pastGauge (path .feeding [gauged 9, gone .stacker .accept] openLane).ntg.records = some (gone .stacker .accept)
    ∧ removeFirst .pastGauge [gauged 9, gone .stacker .accept] = [gauged 9]
    ∧ firstOf .pastGauge (path .feeding [gauged 9] openLane).ntg.records = none ∧ (path .halted [] openLane).ntg.state = .halted
    ∧ (purgeRun 49).dsp.rejectCount + 1 ≤ (purgeRun 49).dsp.rejectCap ∧ (purgeRun 50).dsp.rejectCap < (purgeRun 50).dsp.rejectCount + 1
    ∧ (purgeRun 50).dsp.state = .purging ∧ (purgeRun 50).dsp.dispensing = false ∧ (purgeRun 50).lsv.lane = .purging
    ∧ ((firstOf .pastGauge (purgeRun 49).ntg.records).bind (fun r => r.estimate)).getD 1 = 1
    ∧ unknownRecord.slot = none ∧ (gone .stacker .accept).slot = some .one ∧ entryIn .active openLane.dsp.pickList = none
    ∧ entryIn .active (placing 2).dsp.pickList = some { pickEntry .one 2 with done := 1, state := .active }
    ∧ { pickEntry .one 2 with done := 1 }.done + 1 = 2 ∧ { pickEntry .one 3 with done := 1 }.done + 1 ≠ 3
    ∧ (placing 2).dsp.state = .picking ∧ (placing 2).dsp.withdrawPending = false ∧ openLane.dsp.state ≠ .picking
    ∧ { placing 2 with dsp.rejectEvents := 11 }.dsp.rejectEvents < 12
    ∧ 12 ≤ { placing 2 with dsp.rejectEvents := 12 }.dsp.rejectEvents := by
  decide

/-- A purge run that has stayed clear for 399 and for 400 pulses, and sensors that have kept it from being clear. -/
theorem test_premises_PurgeAndSuspendEnd :
    (path .purge [] { lane .purging with dsp.state := .purging }).dsp.state = .purging
    ∧ (path .purge [] (lane .purging)).ntg.state = .purge ∧ (path .purge [] (lane .purging)).ntg.state.motor = true
    ∧ (ntgAdvance (.plain 1) { (path .purge [] (lane .purging)).ntg with clearFor := 399 }).clearFor = 400
    ∧ (ntgAdvance (.plain 0) { (path .purge [] (lane .purging)).ntg with clearFor := 399 }).clearFor < 400
    ∧ (lane .purging).ntg.records = [] ∧ (lane .purging).ntg.edge = false
    ∧ (exits none (some 7) (lane .purging)).ntg.exitR = some 7 ∧ (exits (some 7) none (lane .purging)).ntg.exitS ≠ none
    ∧ { lane .purging with lsv.stage := .surveyed }.lsv.stage = .surveyed ∧ (lane .purging).lsv.stage ≠ .surveyed
    ∧ suspended.dsp.suspendTimer = some 9 ∧ suspended.dsp.state = .suspended
    ∧ { openLane with dsp.state := .purging, dsp.dispensing := true }.dsp.dispensing = true
    ∧ { placing 3 with dsp.withdrawPending := true }.dsp.withdrawPending = true
    ∧ (entryIn .active (placing 3).dsp.pickList).isSome = true ∧ entryIn .active (listed .feeding []).dsp.pickList = none
    ∧ openLane.dsp.state ≠ .purging ∧ openLane.dsp.state ≠ .picking := by decide

/-- A lane whose drawer holds the oldest envelope of the pocket, with so many places covered. -/
def returning (places : Four Bool) : State :=
  { drawer .extending .ret with pkt.pocket := [envelope 5 .returning], lines.places := places }

theorem test_premises_TrayAndLoadPhase :
    (drawer .opened .notes).drw.purpose.presents = true ∧ { drawer .opened .notes with drw.reachedOpen := true }.drw.reachedOpen = true
    ∧ (drawer .retracting .notes).drw.state = .retracting ∧ (drawer .extending .notes).drw.reachedOpen = false
    ∧ (drawer .opened .notes).drw.trayEmpty = none ∧ { drawer .opened .notes with drw.trayEmpty := some 0 }.drw.trayEmpty ≠ none
    ∧ (drawer .opened .deposit).drw.purpose.presents = false ∧ (drawer .extending .notes).drw.phase = .load
    ∧ { drawer .extending .notes with drw.stroke := some 0, drw.tray := true }.drw.hold = false
    ∧ { drawer .extending .notes with drw.stroke := some 0, drw.tray := true, drw.hold := true }.drw.hold = true
    ∧ { drawer .extending .notes with drw.stroke := some 0 }.drw.tray = false
    ∧ { drawer .extending .ret with drw.load := some 0 }.drw.load = some 0
    ∧ (drawer .extending .notes).drw.reported = false ∧ { drawer .retracting .ret with drw.reported := true }.drw.reported = true
    ∧ (returning (Four.replicate false)).pkt.pocket = envelope 5 .returning :: []
    ∧ (returning ⟨true, false, false, false⟩).coveredPlaces = 0 + 1 ∧ (returning (Four.replicate false)).coveredPlaces < 0 + 1
    ∧ openLane.pkt.pocket = [] := by decide

theorem test_premises_DrawerMovements :
    { drawer .extending .deposit with drw.phase := .travel }.drw.phase = .travel
    ∧ { drawer .extending .notes with drw.phase := .travel, drw.served := some ⟨1, 1, true⟩ }.drw.served = some ⟨1, 1, true⟩
    ∧ { drawer .opened .deposit with drw.mode := .backingOff, drw.obstructions := 2 }.drw.obstructions < 3
    ∧ 3 ≤ { drawer .opened .deposit with drw.mode := .backingOff, drw.obstructions := 3 }.drw.obstructions
    ∧ { drawer .opened .ret with drw.mode := .backingOff, drw.retractNext := true }.drw.retractNext = true
    ∧ (drawer .opened .ret).drw.purpose ≠ .deposit
    ∧ (drawer .retracting .none).drw.state = .retracting ∧ (drawer .opened .none).drw.state ≠ .retracting
    ∧ { drawer .opened .none with drw.motion := some 0 }.drw.motion = some 0
    ∧ { drawer .opened .none with drw.mode := .edgeWait }.drw.mode = .edgeWait
    ∧ { drawer .opened .none with drw.mode := .waiting, drw.obstruct := some 0 }.drw.safe = false
    ∧ { drawer .opened .none with drw.mode := .waiting, drw.obstruct := some 0, drw.safe := true }.drw.obstruct = some 0
    ∧ (drawer .retracting .notes).drw.reported = false ∧ { drawer .retracting .ret with drw.reported := true }.drw.purpose.presents = true
    ∧ { drawer .retracting .ret with drw.returnSeq := some 5, drw.tray := true }.drw.returnSeq = some 5
    ∧ (drawer .retracting .deposit).drw.tray = false ∧ (drawer .retracting .none).drw.purpose = .none
    ∧ { drawer .closed .none with lsv.lane := .purging, lsv.stage := .drawer }.lsv.stage = .drawer
    ∧ { drawer .closed .none with lsv.lane := .purging, lsv.stage := .intake }.lsv.stage ≠ .drawer
    ∧ (drawer .closed .none).lsv.lane ≠ .purging := by decide

/-- A bundle that is presented, its list's ACTIVE entry of a kind. -/
def presented (kind : EntryKind) : State :=
  { drawer .opened .notes with dsp.state := .presenting, dsp.pickList := [{ closeEntry kind with state := .active }] }

theorem test_premises_DrawerTimers :
    { drawer .opened .notes with drw.trayEmpty := some 0 }.drw.mode = .standing
    ∧ { drawer .retracting .ret with drw.trayEmpty := some 0 }.drw.purpose = .ret
    ∧ (drawer .opened .notes).drw.reported = false ∧ { drawer .opened .notes with drw.reported := true }.drw.reported = true
    ∧ { drawer .opened .notes with drw.take := some 0, drw.tray := true }.drw.tray = true
    ∧ { drawer .opened .notes with drw.take := some 0, drw.obstructions := 3 }.drw.obstructions = 3
    ∧ { drawer .opened .ret with drw.take := some 0 }.drw.obstructions ≠ 3
    ∧ { drawer .opened .ret with drw.take := some 0 }.drw.tray = false ∧ (drawer .opened .ret).drw.purpose.presents = true
    ∧ (drawer .opened .deposit).drw.purpose.presents = false
    ∧ { drawer .opened .deposit with drw.deposit := some 0 }.drw.deposit = some 0
    ∧ { drawer .closed .notes with drw.sweep := some 0 }.drw.sweep = some 0
    ∧ openLane.dsp.state ≠ .presenting ∧ (presented .present).dsp.state = .presenting
    ∧ { presented .present with dsp.lockMark := true }.dsp.lockMark = true
    ∧ { presented .present with dsp.cancelMark := true }.dsp.lockMark = false
    ∧ (presented .present).dsp.cancelMark = false
    ∧ entryIn .active (presented .present).dsp.pickList = some { closeEntry .present with state := .active }
    ∧ entryIn .active (presented .presentFinal).dsp.pickList = some { closeEntry .presentFinal with state := .active }
    ∧ (envelope 5 .returning).state = .returning ∧ (envelope 5 .inPocket).state ≠ .returning := by decide

/-- The leading edge's first pulse at the 199th, the 200th and the 201st; the window at pulse 40; a pocket that passes over two numbers. -/
theorem test_premises_IntakeBegins :
    (inkAdvance 1 (intake .drawing (item 199 none) openLane).ink).record.sinceStart < 201
    ∧ ¬ (inkAdvance 2 (intake .drawing (item 199 none) openLane).ink).record.sinceStart < 201
    ∧ (inkAdvance 1 (intake .drawing (item 199 none) openLane).ink).record.sinceLead = none
    ∧ 200 ≤ (intake .drawing (item 200 none) openLane).ink.record.sinceStart
    ∧ (intake .reversing (item 0 none) openLane).ink.state = .reversing ∧ (intake .ejecting (item 0 none) openLane).ink.state = .ejecting
    ∧ openLane.ink.state ≠ .drawing ∧ openLane.ink.clearPending = false
    ∧ { openLane with ink.clearPending := true }.ink.clearPending = true
    ∧ (inkAdvance 1 (intake .drawing (item 60 (some 39)) openLane).ink).record.sinceLead = some 40
    ∧ openLane.takenSeq ≤ 999999 ∧ isSequence openLane.ink.seqCounter ∧ isSequence 999999 ∧ openLane.pkt.pocket.length ≤ 4
    ∧ { openLane with ink.seqCounter := 999999, pkt.pocket := [envelope 999999 .inPocket, envelope 1 .inPocket] }.takenSeq = 2
    ∧ openLane.ink.sensor = false ∧ { openLane with ink.sensor := true }.ink.sensor = true
    ∧ (intake .waiting (item 0 none) openLane).ink.state = .waiting ∧ openLane.pkt.pocket.length < 4
    ∧ 4 ≤ { openLane with pkt.pocket := List.replicate 4 (envelope 5 .inPocket) }.pkt.pocket.length
    ∧ (drawer .closed .none).drw.state = .closed ∧ (drawer .opened .deposit).drw.purpose ≠ .none
    ∧ openLane.drw.tray = false ∧ { openLane with drw.tray := true }.drw.tray = true := by
  unfold isSequence; decide

/-- The pulses of an intake: saturated marks, a sensor clear and covered, and rollers that stand. -/
theorem test_premises_IntakeBegins_pulses :
    (inkAdvance 2 (intake .drawing (item 65534 (some 65530)) openLane).ink).record.sinceStart = 65535
    ∧ (inkAdvance 2 (intake .seating (item 65534 (some 65530)) openLane).ink).record.sinceLead = some 65532
    ∧ (inkAdvance 2 { openLane.ink with state := .printing, sinceClear := 5 }).sinceClear = 7
    ∧ (inkAdvance 2 { openLane.ink with state := .ejecting, sinceClear := 5, sensor := true }).sinceClear = 0
    ∧ (inkAdvance 2 { openLane.ink with state := .jammed, sinceClear := 5 }).sinceClear = 5
    ∧ openLane.ink.state = .idle ∧ (intake .reversing (item 0 none) openLane).ink.state = .reversing := by decide

/-- An intake that prints, before strobe j. -/
def printing (j : Nat) : State :=
  { intake .printing { item 100 (some 40) with seq := some 1, strobed := some j, skipped := some 0, hotSeen := some false } openLane with
    ink.window := some window, ink.burnLeft := 8 }

theorem test_premises_StrobesBurnOrSkip :
    (printing 0).ink.window = some window ∧ (printing 0).ink.record.strobed = some 0 ∧ (printing 94).ink.burnLeft ≤ 8
    ∧ 7 < (printing 94).ink.burnLeft ∧ 94 < 95 ∧ (printing 95).ink.record.strobed = some 95
    ∧ (printing 95).ink.record.skipped = some 0 ∧ (printing 95).ink.record.hotSeen = some false
    ∧ 7 < (printing 95).ink.burnLeft ∧ (printing 95).ink.burnLeft ≤ 8 := by
  refine ⟨rfl, ?_⟩
  decide

/-- Trailing edges at lengths 179, 180 and 520, one more than the mark of the leading edge's position. -/
theorem test_premises_IntakeLengthDecides :
    (∀ l, l = 136 ∨ l = 179 ∨ l = 180 ∨ l = 520 →
      ({ inkAdvance 1 (intake .seating (item 600 (some l)) openLane).ink with sensor := false, sinceClear := 1 } : Ink).record.sinceLead
        = some (l + 1))
    ∧ (printing 3).ink.window = some window
    ∧ (intake .seating (item 600 (some 521)) openLane).ink.record.outcome = none ∧ openLane.ink.window = none
    ∧ (intake .seating { item 600 (some 400) with outcome := some .accepted } openLane).ink.record.outcome ≠ none
    ∧ (intake .idle (item 0 none) openLane).ink.state ≠ .drawing
    ∧ (intake .drawing (item 60 (some 35)) openLane).ink.state = .drawing ∧ (printing 3).ink.state = .printing
    ∧ (printing 3).ink.record.skipped = some 0 ∧ (printing 3).ink.record.hotSeen = some false
    ∧ { intake .seating (item 600 (some 520)) openLane with ink.sensor := true }.ink.sensor = true
    ∧ (inkAdvance 0 (intake .seating (item 600 (some 520)) openLane).ink).record.sinceLead = some 520
    ∧ (inkAdvance 1 (intake .seating (item 600 (some 520)) openLane).ink).record.sinceLead = some 521 := by
  refine ⟨?_, rfl, by decide⟩
  rintro l (rfl | rfl | rfl | rfl) <;> decide

/-- The record of an accepted envelope of length 300, its last pulse so far from its trailing edge. -/
def accepted (since : Nat) : IntakeRec :=
  { item 700 (some (300 + since)) with
    seq := some 1, length := some 300, outcome := some .accepted, quality := some .full, skipped := some 0 }

/-- An item coming back, its sensor clear for so many pulses of a run of so many. -/
def backward (st : InkState) (kind : IntakeKind) (clear run : Nat) : State :=
  { intake st { IntakeRec.fresh kind with sinceStart := run, seq := some 1 } openLane with
    ink.coveredInRun := true, ink.sinceClear := clear }

/-- 59 and 60 clear pulses, 1,199 and 1,200 pulses of a run, and the place above one record. -/
theorem test_premises_IntakeRunsEnd :
    (intake .seating (accepted 159) openLane).ink.record.outcome = some .accepted ∧ 459 - 300 < 160 ∧ 160 ≤ 460 - 300
    ∧ Slot.one.number = (openLane.pkt.pocket.filter (fun r => r.state ≠ .launched)).length + 1
    ∧ Slot.two.number = (([envelope 4 .launched, envelope 5 .inPocket] : List EnvRec).filter (fun r => r.state ≠ .launched)).length + 1
    ∧ (⟨false, true, false, false⟩ : Four Bool).get .two = true ∧ Lines.quiet.places.get .one = false
    ∧ (backward .reversing .intake 60 1199).ink.sensor = false
    ∧ (inkAdvance 0 (backward .reversing .intake 59 1199).ink).sinceClear < 60
    ∧ 60 ≤ (inkAdvance 1 (backward .reversing .intake 59 1198).ink).sinceClear
    ∧ (inkAdvance 1 (backward .reversing .intake 59 1198).ink).record.sinceStart < 1200
    ∧ 1200 ≤ (inkAdvance 1 (backward .reversing .intake 59 1199).ink).record.sinceStart
    ∧ (inkAdvance 1 (backward .reversing .intake 59 1198).ink).record.kind = .intake
    ∧ (backward .reversing .intake 60 0).ink.coveredInRun = true ∧ openLane.ink.coveredInRun = false
    ∧ (backward .ejecting .eject 60 0).ink.state = .ejecting ∧ (backward .reversing .reverseRun 60 0).ink.record.kind = .reverseRun
    ∧ (intake .reversing (IntakeRec.fresh .reverseRun) openLane).ink.coveredInRun = false
    ∧ { openLane with ink.clearPending := true }.ink.clearPending = true
    ∧ { backward .reversing .intake 60 0 with ink.clearPending := true }.ink.record.kind = .intake
    ∧ { backward .ejecting .eject 60 0 with ink.clearPending := true }.ink.state = .ejecting
    ∧ { backward .reversing .reverseRun 60 0 with ink.clearPending := true }.ink.coveredInRun = true
    ∧ { backward .reversing .reverseRun 60 0 with ink.clearPending := true, ink.coveredInRun := false }.ink.clearPending = true
    ∧ (intake .idle (item 0 none) openLane).ink.state = .idle ∧ (intake .jammed (item 0 none) openLane).ink.state = .jammed
    ∧ openLane.lsv.lane ≠ .purging ∧ { lane .purging with lsv.stage := .intake }.lsv.stage = .intake
    ∧ { lane .purging with lsv.transportDone := true }.lsv.transportDone = true
    ∧ openLane.coveredPlaces ≤ openLane.pkt.pocket.length
    ∧ { openLane with lines.places := ⟨true, false, false, false⟩ }.coveredPlaces = openLane.pkt.pocket.length + 1
    ∧ (returning (Four.replicate false)).drw.phase = .load ∧ { returning (Four.replicate false) with drw.load := some 0 }.drw.load = some 0
    ∧ { returning (Four.replicate false) with drw.tray := true, drw.hold := true }.drw.hold = true
    ∧ (returning (Four.replicate false)).drw.hold = false ∧ (returning (Four.replicate false)).drw.load = none
    ∧ isSequence openLane.ink.seqCounter ∧ (pocket.pkt.pocket.map (fun e => e.seq)).Nodup := by
  unfold isSequence; decide

theorem test_premises_IntakeJams :
    (printing 3).ink.window = some window
    ∧ (inkAdvance 0 (intake .seating (accepted 160) openLane).ink).record.sinceLead = some 460 ∧ 160 ≤ 460 - 300
    ∧ 1200 ≤ (inkAdvance 1 (backward .reversing .intake 0 1199).ink).record.sinceStart
    ∧ (backward .reversing .intake 0 1199).ink.record.kind = .intake
    ∧ 1200 ≤ (inkAdvance 0 (backward .ejecting .eject 0 1200).ink).record.sinceStart
    ∧ (backward .reversing .reverseRun 0 1200).ink.record.kind = .reverseRun
    ∧ (backward .reversing .intake 0 0).ink.record.kind ≠ .reverseRun
    ∧ (intake .drawing (item 0 none) openLane).ink.state = .drawing ∧ openLane.ink.window = none
    ∧ (printing 3).ink.record.skipped = some 0 ∧ (printing 3).ink.record.hotSeen = some false
    ∧ (printing 3).ink.record.kind = .intake ∧ openLane.ink.clearPending = false
    ∧ { openLane with ink.clearPending := true }.ink.clearPending = true
    ∧ (lane .purging).lsv.lane = .purging ∧ openLane.lsv.lane ≠ .purging := ⟨rfl, by decide⟩

/-- A lane whose oldest envelope is LAUNCHED. -/
def launched : State := { openLane with pkt.chute := .launched, pkt.gate := some 0, pkt.pocket := [envelope 1 .launched] }

theorem test_premises_LaunchEnds :
    openLane.pkt.chute ≠ .launched ∧ launched.pkt.chute = .launched ∧ launched.pkt.pocket = envelope 1 .launched :: []
    ∧ launched.pkt.gate = some 0 ∧ { openLane with pkt.fairness := some 0 }.pkt.fairness = some 0 := by decide

theorem test_premises_AlarmLoopsAndSiren :
    (openLane.alm.loops.get .two).state ≠ .opened ∧ (openLane.alm.loops.get .two).enabled = true
    ∧ ({ openLane with alm.loops.two.enabled := false }.alm.loops.get .two).enabled = false
    ∧ (tamper.minus openLane.alm.latch).sounds = true ∧ tamper.minus tamper = AlarmSet.empty
    ∧ (loopKind .one).minus openLane.alm.latch = { AlarmSet.empty with duress := true }
    ∧ { openLane with alm.sirenToggle := some 0 }.alm.sirenToggle = some 0 ∧ openLane.alm.sirenToggle = none
    ∧ { openLane with alm.sirenTimer := some 0 }.alm.sirenTimer = some 0 ∧ openLane.alm.sirenTimer = none
    ∧ tamper.minus openLane.alm.latch ≠ AlarmSet.empty ∧ AlarmSet.empty.minus openLane.alm.latch = AlarmSet.empty := by decide

theorem test_premises_EndOfADispense :
    openLane.lsv.station.toNat < 15 ∧ openLane.biu.fifo.length < 8
    ∧ 8 ≤ { openLane with biu.fifo := List.replicate 8 (.reserved .reply) }.biu.fifo.length
    ∧ (path .idle [] openLane).ntg.state = .idle ∧ (path .baseline [] openLane).ntg.state = .baseline
    ∧ (path .feeding [] openLane).ntg.records = [] ∧ (path .feeding [gauged 1] openLane).ntg.records ≠ []
    ∧ (path .halted [] openLane).ntg.state = .halted
    ∧ { openLane with dsp.pendingEnd := some .cancelled }.dsp.pendingEnd = some .cancelled := by decide

/-- A lane that learns of a TAMPER elsewhere. -/
def tampered (s : State) : State := withPeer 14 (fun p => { p with announced := tamper }) s

theorem test_premises_WallSetAndLockdown :
    openLane.lsv.station.toNat < 15 ∧ openLane.lockdown = false ∧ openLane.formedWall.locks = false
    ∧ (tampered openLane).formedWall.locks = true ∧ (tampered openLane).lockdown = false
    ∧ { openLane with alm.wall := tamper }.lockdown = true
    ∧ { openLane with dsp.state := .reserving }.reserveSending = false
    ∧ (sends (.wall (.reserve 5)) { openLane with dsp.state := .reserving }).reserveSending = true
    ∧ (picking .one).dsp.state = .picking ∧ { openLane with dsp.state := .stacked }.dsp.state = .stacked
    ∧ { drawer .opened .notes with dsp.state := .presenting }.drw.mode = .standing
    ∧ { drawer .opened .notes with drw.mode := .waiting }.drw.mode ≠ .standing
    ∧ (drawer .extending .notes).drw.phase = .load ∧ { drawer .extending .notes with drw.phase := .travel }.drw.phase = .travel
    ∧ (picking .one).drw.state = .closed ∧ (lane .awaitConfig).lsv.lane = .awaitConfig ∧ openLane.lsv.lane ≠ .starting := by decide

/-- The worked cassettes are sound records, and worked mix 1's amount and allowance are those of an OPEN lane. -/
theorem test_premises_MixIsTheLargest : CassettesSound openLane ∧ 200 = 4 * openLane.dsp.bundleLimit
    ∧ findMix openLane.cas 360 200 ≠ none ∧ findMix openLane.cas 1 200 = none := by
  refine ⟨?_, by decide⟩
  intro k
  cases k <;> constructor <;> decide

/-- The OPEN lane meets every invariant. -/
theorem test_premises_of_the_invariants :
    PocketSound openLane ∧ AlarmSound openLane ∧ OutboxSound openLane ∧ ChuteSound openLane ∧ ExposureSound openLane := by
  have sending : openLane.sending = none := by decide
  have empty : openLane.pkt.pocket = [] := by decide
  have pocket : PocketSound openLane := by
    refine ⟨by decide, by decide, by decide, ?_, ?_, by decide, ?_⟩
    · intro e h; rw [empty] at h; cases h
    · unfold isSequence; decide
    · intro h; exact absurd h (by decide)
  have queued : openLane.sendingQueued := fun w h => by rw [sending] at h; cases h
  refine ⟨pocket, by constructor <;> decide, by constructor <;> decide, ?_, ?_⟩
  · constructor <;> first | exact pocket | exact queued | decide
  · refine ⟨by decide, by decide, by decide, by decide, ?_, by decide, fun _ => .inl (by decide), ?_, queued, by decide, by decide, ?_⟩
    · intro h; exact absurd h (by decide)
    · intro a h; rw [sending] at h; cases h
    · decide

/-- A transport that is FEEDING slot 1 toward a target, with an object past the gauge. -/
def feeding (target : Nat) : State :=
  { path .feeding [gone .stacker .accept] openLane with ntg.order := some { slot := .one, target := target } }

/-- One object under way: a pick fires for a target of 2 and not of 1, not for an empty slot, behind an object that is not past the
gauge, or under lockdown. -/
theorem test_premises_LockdownAndLaunchHold :
    (feeding 2).ntg.state = .feeding ∧ (∀ r ∈ (feeding 2).ntg.records, r.stage = .pastGauge)
    ∧ (feeding 2).dsp.stackerCount + (feeding 2).ntg.records.length < 2 ∧ 1 ≤ (feeding 1).dsp.stackerCount + (feeding 1).ntg.records.length
    ∧ ((feeding 2).cas.get .one).state = .ok ∧ (feeding 2).lockdown = false ∧ { feeding 2 with alm.wall := tamper }.lockdown = true
    ∧ ((stocked 0 0).cas.get .one).state ≠ .ok ∧ (gauged 9).stage ≠ .pastGauge ∧ openLane.ntg.order = none
    ∧ ((feeding 2).ntg.records.find? (fun r => decide (r.stage = .pastGauge))).bind (fun r => r.route) = some .stacker
    ∧ (settle (feeding 2)).outputs = [.pick .one] ∧ (settle (feeding 1)).outputs = [] := by decide

/-- Gate counts at the baseline and one below it, and a baseline at both ends of its range. -/
theorem test_premises_GaugeIndexAndClasses :
    12000 ≤ 12000 ∧ 11999 < 12000 ∧ 256 ≤ 256 ∧ 65534 ≤ 65534 ∧ 1023 < ((256 - 0) * 1024 + 256 / 2) / 256
    ∧ thickness 256 0 = 1023 := by decide

/-- The reset state steps, and a lane strapped 1 is a lane. -/
theorem test_premises_invariants :
    (after .joinBus State.reset).isSome = true ∧ isLane State.reset.lsv.station = true
    ∧ (∀ station slow, Instr.joinBus ≠ .powerReset station slow) ∧ State.reset.lsv.heldRestarts = []
    ∧ State.reset.lsv.lane = .starting ∧ (lane .purging).lsv.lane ≠ .starting ∧ openLane.lsv.lane ≠ .awaitConfig := by
  refine ⟨by decide, by decide, ?_, by decide⟩
  intros; simp

/-! ### Single steps -/

/-- R181: the joined lane waits for its configuration with its own record PRESENT. -/
theorem test_step_joins : (match step { State.reset with pending := [.joinBus, .busStuck] } with
    | .next t => some (t.lsv.lane, (peerAt t.pt.peers 1).present, t.pending)
    | _ => none) = some (.awaitConfig, true, [.busStuck]) := by decide

/-- R184: LANE_OPEN makes the sender the owner, and the reply carries tag, kind and OK (R175). -/
theorem test_lane_open : (after (.laneOpen 13 [7]) (acked 13 16 [7] (lane .closed))).map
      (fun t => (t.lsv.lane, t.cmd.owner, t.biu.fifo))
    = some (.opened, some 13, [.frame { kind := 48, dest := 13, payload := [7, 16, 0] }]) := by decide

/-- R47 with worked mix 1: the reply details 3, 2, 0, 2 and the RESERVE of 360 units is queued. -/
theorem test_dispense : (after (.dispense 0 [9, 0, 0, 1, 104]) (acked 0 18 [9, 0, 0, 1, 104] openLane)).map
      (fun t => (t.dsp.state, t.biu.wallQueue, t.biu.fifo))
    = some (.reserving, [.reserve 360], [.frame { kind := 48, dest := 0, payload := [9, 18, 0, 3, 2, 0, 2] }]) := by decide

/-- R17's example: 10, 1, 0 and 2 notes are 450 units. -/
theorem test_dispense_mix : (after (.dispenseMix 0 [9, 10, 1, 0, 2]) (acked 0 19 [9, 10, 1, 0, 2] openLane)).map
      (fun t => t.biu.wallQueue) = some [.reserve 450] := by decide

/-- R17's example: slot 3 is EMPTY, so a note of it is BAD_PARAM (code 2). -/
theorem test_dispense_mix_refused : (after (.dispenseMix 0 [9, 0, 0, 1, 0]) (acked 0 19 [9, 0, 0, 1, 0] openLane)).map
      (fun t => (t.biu.wallQueue, t.biu.fifo)) = some ([], [.frame { kind := 48, dest := 0, payload := [9, 19, 2] }]) := by decide

/-- R100's second example: 20 bytes at page 7, column 85 end at page 0, column 9, and byte 12 stands at page 0, column 0. -/
theorem test_imprint_write :
    (after (.imprintWrite 0 ([9, 7, 85] ++ List.replicate 11 1 ++ List.replicate 9 2))
        (acked 0 26 ([9, 7, 85] ++ List.replicate 11 1 ++ List.replicate 9 2) openLane)).map
      (fun t => (t.biu.fifo, t.ink.raster[767], t.ink.raster[0], t.ink.raster[9]))
    = some ([.frame { kind := 48, dest := 0, payload := [9, 26, 0, 0, 9] }], 1, 2, 0) := by decide +kernel

/-- R9: a load of 4,000 notes is CLAMPED (code 1) to 3,000. -/
theorem test_cassette_load : (after (.cassetteLoad 0 [9, 1, 15, 160]) (acked 0 28 [9, 1, 15, 160] serviced)).map
      (fun t => ((t.cas.get .one).count, t.biu.fifo.head?))
    = some (3000, some (.frame { kind := 48, dest := 0, payload := [9, 28, 1, 1, 11, 184, 2] })) := by decide +kernel

/-- R168: the 16th void makes the station QUIET for 2 s. -/
theorem test_sixteenth_void : (after (.formErrorBreak .inFrame) { openLane with biu.voidCount := 15 }).map
      (fun t => (t.biu.voidCount, t.biu.quiet)) = some (16, some 2000) := by decide

/-- R137: another lane's RESERVE of 258 units sets its entry, and its ACK is driven (R165). -/
theorem test_reserve_received : (after (.reserveReceived (broadcast 1 2 8 [0, 1, 2])) openLane).map
      (fun t => ((peerAt t.pt.peers 2).exposure, (peerAt t.pt.peers 2).present, t.outputs)) = some (258, true, [.ack]) := by
  decide +kernel

/-- R160, R165, R167: a frame whose CRC does not match is objected to and counted once, and one that has been broken no more. -/
theorem test_garbled_frame :
    (after (.frameVoided (some garbled)) openLane).map (fun t => (t.outputs, t.biu.voidCount)) = some ([.object], 1)
    ∧ (after (.formErrorBreak .inFrame) openLane).map (fun t => (t.biu.broken, t.biu.voidCount)) = some (true, 1)
    ∧ (after (.frameVoided (some garbled)) { openLane with biu.broken := true, biu.voidCount := 1 }).map
        (fun t => (t.outputs, t.biu.voidCount, t.biu.broken)) = some ([], 1, false) := by decide +kernel

/-- R159, R163: a frame of another station that announces 25 bytes is broken and counted in its own row, once; one that announces 24
is not broken, and a station that is QUIET breaks nothing. -/
theorem test_length_above_24_breaks :
    (after (.statusReceived (long 25)) openLane).map (fun t => (t.outputs, t.biu.voidCount)) = some ([.lineBreak], 1)
    ∧ (after (.statusReceived (long 24)) openLane).map (fun t => t.outputs) = some [.object]
    ∧ (after (.statusReceived (long 25)) { openLane with biu.quiet := some 5, biu.voidCount := 16 }).map
        (fun t => (t.outputs, t.biu.voidCount)) = some ([], 16) := by decide +kernel

/-- R166: a completed claim whose ACK slot nobody drove is UNHEARD, and it launches all the same (R117). -/
theorem test_unheard_claim : (after (.chuteClaimReceived (broadcast 1 1 10 []) false) (sends (.wall .claim) claims)).map
      (fun t => (t.biu.lastOutcome, t.pkt.chute, t.outputs)) = some (some .unheard, .launched, [.launch]) := by decide +kernel

/-- Worked measurements, a single note: measured, accepted, and both references taught. -/
theorem test_trailing_edge :
    (after (.trailingEdge (.plain 0)) { path .feeding
        [{ gauged 301 with counts := some (11640, 11446), indices := some (31, 31), gauge := some .single }] openLane with
      ntg.edge := true, cas := openLane.cas.modify .one (fun c => { c with nominal := 300 }) }).map
      (fun t => ((t.cas.get .one).ref8L, (t.cas.get .one).ref8R, (t.cas.get .one).count, t.ntg.diverter))
    = some (255, 255, 39, .stacker) := by decide

/-- R36: an exit sensor covered for 200 pulses halts the transport, at 199 it does not. -/
theorem test_exit_blocked :
    (after (.exitBlocked (.plain 1)) (exits (some 199) none (path .feeding [] openLane))).map (fun t => (t.ntg.state, t.ntg.cause))
      = some (.halted, .exitBlocked)
    ∧ (after (.exitBlocked (.plain 0)) (exits (some 199) none (path .feeding [] openLane))).map (fun t => t.ntg.state)
      = some .feeding := by decide

/-- R41: the run ends after 400 pulses since the exit sensor that was covered last has cleared. -/
theorem test_purge_run_end :
    (after (.purgeDone ⟨450, some 400, none⟩) (exits (some 3) none (path .purge [] (lane .purging)))).map (fun t => t.ntg.state)
      = some .idle
    ∧ (after (.purgeDone ⟨450, some 399, none⟩) (exits (some 3) none (path .purge [] (lane .purging)))).map (fun t => t.ntg.state)
      = some .purge := by decide

/-- R97: a reversal ends with the 60th clear pulse, and not in its 1,200th pulse. -/
theorem test_reversal_end :
    (after (.reversalEnd 1 Lines.quiet) (backward .reversing .intake 59 500)).map (fun t => t.ink.state) = some .idle
    ∧ (after (.reversalEnd 1 Lines.quiet) (backward .reversing .intake 59 1199)).map (fun t => t.ink.state) = some .reversing := by
  decide

/-- R96: an envelope seats when the place above the records is covered, and on no other place. -/
theorem test_envelope_seats :
    (after (.envelopeSeated 0 { Lines.quiet with places := ⟨true, false, false, false⟩ }) (intake .seating (accepted 159) openLane)).map
      (fun t => (t.ink.state, t.pkt.pocket.map (fun e => e.seq))) = some (.idle, [1])
    ∧ (after (.envelopeSeated 0 { Lines.quiet with places := ⟨false, true, false, false⟩ })
        (intake .seating (accepted 159) openLane)).map (fun t => t.ink.state) = some .seating := by decide

/-- R145, R151: the TAMPER loop opens, latches, sounds the siren and locks the wall down. -/
theorem test_tamper_opens : (after (.loopChange .two .opened) openLane).map
      (fun t => (t.alm.latch, t.alm.siren, t.alm.sirenTimer, t.lockdown, t.biu.alarmFlag))
    = some (tamper, true, some 180000, true, true) := by decide

/-- R145: a short on any loop is TAMPER, and a loop that returns to NORMAL removes nothing. -/
theorem test_short_is_tamper :
    (after (.loopChange .one .short) openLane).map (fun t => t.alm.latch) = some tamper
    ∧ (after (.loopChange .two .normal) { openLane with alm.latch := tamper, alm.loops.two.state := .opened }).map
        (fun t => t.alm.latch) = some tamper := by decide

/-- R118: a gate pulse captures the launched envelope. -/
theorem test_gate_pulse : (after .gatePulse launched).map (fun t => (t.pkt.pocket, t.pkt.chute, t.biu.wallQueue))
    = some ([], .releasing, [.chuteRelease true]) := by decide

/-- R73, R81: resistance on the way in turns the drawer out again, OPEN, is counted, and the tray-empty timer runs over its tray. -/
theorem test_safety_edge : (after .safetyEdgePressed (drawer .retracting .notes)).map
      (fun t => (t.drw.state, t.drw.obstructions, t.drw.motion, t.drw.trayEmpty)) = some (.opened, 1, some 4000, some 1000) := by
  decide

/-- R87: a restart sets the obstruction count to 0, of a CLOSED drawer as well. -/
theorem test_restart_drawer : (after (.restart 0 [7] { Lines.quiet with home := true })
      (acked 0 35 [7] { drawer .closed .none with drw.obstructions := 1 })).map
      (fun t => (t.lsv.lane, t.drw.state, t.drw.obstructions)) = some (.purging, .closed, 0) := by decide

/-- R88, R181: a loop that opens before the start-up purge locks the wall down and leaves an OPEN drawer where it stands. -/
theorem test_start_up_drawer : (after (.loopChange .two .opened) { drawer .opened .none with lsv.lane := .awaitConfig }).map
      (fun t => (t.lockdown, t.drw.state)) = some (true, .opened) := by decide

end Sys2Proof.Tests
end

section
/-!
PROOF. The cassette records: what each rule of the cassette manager does to a record, which steps touch the records at all, and
that every step keeps them sound.
-/

namespace Sys2Proof

/-! ### Four like things -/

@[simp] theorem Four.set_get_self {α : Type} (v : Four α) (k : Slot) : v.set k (v.get k) = v := by
  cases k <;> rfl

theorem Four.modify_eq_set {α : Type} (v : Four α) (k : Slot) (f : α → α) : v.modify k f = v.set k (f (v.get k)) := rfl

namespace Machine

/-! ### Invariants of a run, packaged once -/

/-- A property of the state that does not read the queue, that time keeps and that every command keeps, is kept by every step. -/
theorem step_keeps {P : State → Prop} (hqueue : ∀ s rest, P s → P { s with pending := rest })
    (htick : ∀ s, P s → P (tick s)) (hexec : ∀ c s t, P s → exec c s = .next t → P t) {s t : State}
    (hs : P s) (h : step s = .next t) : P t := by
  unfold step at h
  cases hp : s.pending with
  | cons c rest =>
    rw [hp] at h
    exact hexec c _ t (hqueue s rest hs) h
  | nil =>
    rw [hp] at h
    change idle s = .next t at h
    unfold idle at h
    cases hd : dueExpiry s with
    | some c =>
      rw [hd] at h
      exact hexec c s t hs h
    | none =>
      rw [hd] at h
      exact Host.Outcome.next.inj h ▸ htick s hs

/-! ### Byte fields -/

theorem foldl_bytes_lt (l : List Byte) (a : Nat) :
    l.foldl (fun n b => n * 256 + b.toNat) a < (a + 1) * 256 ^ l.length := by
  induction l generalizing a with
  | nil => simp
  | cons b l ih =>
    have hb := b.isLt
    calc _ < (a * 256 + b.toNat + 1) * 256 ^ l.length := ih _
      _ ≤ (a + 1) * 256 * 256 ^ l.length := Nat.mul_le_mul_right _ (by omega)
      _ = (a + 1) * 256 ^ (b :: l).length := by rw [List.length_cons, Nat.pow_succ, Nat.mul_assoc, Nat.mul_comm 256]

/-- A field of `n` bytes carries a number of at most `n` bytes. -/
theorem field_lt (p : List Byte) (i n : Nat) : field p i n < 256 ^ n := by
  have h := foldl_bytes_lt ((p.drop i).take n) 0
  rw [Nat.zero_add, Nat.one_mul] at h
  exact Nat.lt_of_lt_of_le h (Nat.pow_le_pow_right (by decide) (List.length_take_le _ _))

/-! ### The state of a record (R2) -/

theorem casState_unused {c : Cassette} (hd : c.denomination = 0) : casState c = .unused := by
  simp [casState, hd]

theorem casState_away {c : Cassette} (hd : c.denomination ≠ 0) (hp : c.present = false) : casState c = .absent := by
  simp [casState, hd, hp]

theorem casState_seated {c : Cassette} (hd : c.denomination ≠ 0) (hp : c.present = true) :
    casState c = if c.count = 0 then .empty else if c.count ≤ c.lowMark then .low else .ok := by
  simp [casState, hd, hp]

/-- Which state a record has says whether the slot is in use and whether a cassette is there. -/
theorem casState_iff (c : Cassette) :
    (casState c = .unused ↔ c.denomination = 0)
    ∧ (casState c = .absent ↔ c.denomination ≠ 0 ∧ c.present = false) := by
  by_cases hd : c.denomination = 0
  · simp [casState_unused hd, hd]
  · cases hp : c.present
    · simp [casState_away hd hp, hd]
    · rw [casState_seated hd hp]
      constructor <;> split <;> (try split) <;> simp [hd]

theorem Cassette.Sound.unused_iff {c : Cassette} (h : c.Sound) : c.state = .unused ↔ c.denomination = 0 := by
  rw [h.state]; exact (casState_iff c).1

theorem Cassette.Sound.absent_iff {c : Cassette} (h : c.Sound) :
    c.state = .absent ↔ c.denomination ≠ 0 ∧ c.present = false := by
  rw [h.state]; exact (casState_iff c).2

/-- A record in any of the three other states is in use and its cassette is there. -/
theorem Cassette.Sound.seated {c : Cassette} (h : c.Sound) (hu : c.state ≠ .unused) (ha : c.state ≠ .absent) :
    c.denomination ≠ 0 ∧ c.present = true := by
  have hd : c.denomination ≠ 0 := mt h.unused_iff.2 hu
  refine ⟨hd, ?_⟩
  cases hp : c.present
  · exact absurd (h.absent_iff.2 ⟨hd, hp⟩) ha
  · rfl

/-! ### Each rule keeps a record sound (R3 to R10, R35) -/

theorem Cassette.reset_sound : Cassette.reset.Sound := by
  constructor <;> simp [Cassette.reset, casState]

theorem casRemove_sound {c : Cassette} (h : c.Sound) : (casRemove c).1.Sound := by
  unfold casRemove
  split
  next hu =>
    have hd := h.unused_iff.1 hu
    exact { h with state := by simp [hu, casState, hd], gone := fun _ => h.gone (.inl hd) }
  next hu =>
    have hd := mt h.unused_iff.2 hu
    exact { h with
      state := by simp [casState, hd], count := Nat.zero_le _, mispicks := Nat.zero_le _, gone := fun _ => rfl }

theorem casInsert_sound {c : Cassette} (h : c.Sound) : (casInsert c).1.Sound := by
  unfold casInsert
  split
  next ha =>
    have hd := (h.absent_iff.1 ha).1
    exact { h with
      state := by simp [casState, hd], count := Nat.zero_le _, mispicks := Nat.zero_le _, gone := fun _ => rfl }
  next ha =>
    cases hp : c.present with
    | true => rwa [show ({ c with present := true } : Cassette) = c by rw [← hp]]
    | false =>
      have hd : c.denomination = 0 := Decidable.byContradiction fun hd => ha (h.absent_iff.2 ⟨hd, hp⟩)
      exact { h with state := by simp [h.unused_iff.2 hd, casState, hd], gone := fun _ => h.gone (.inl hd) }

/-- A seated record judged again by R2 after its counts have changed. -/
theorem casJudge_sound {c : Cassette} (h : c.Sound) (hd : c.denomination ≠ 0) (hp : c.present = true) {count loaded : Nat}
    (hc : count ≤ loaded) (hl : loaded ≤ 3000) :
    (casJudge { c with count := count, loaded := loaded, mispicks := 0 }).Sound :=
  { h with
    state := casJudge_state _, count := hc, loaded := hl, mispicks := Nat.zero_le _
    gone := fun hg => absurd hg (by simp [casJudge, hd, hp]) }

theorem casDeliver_sound {c : Cassette} (h : c.Sound) (estimate : Nat) : (casDeliver estimate c).1.Sound := by
  unfold casDeliver
  split
  next => exact h
  next => exact h
  next he =>
    have hz : c.count = 0 := Decidable.byContradiction fun hz => by
      obtain ⟨hd, hp⟩ := h.seated (by simp [he]) (by simp [he])
      have := h.state
      rw [he, casState_seated hd hp, if_neg hz] at this
      split at this <;> cases this
    exact { h with
      state := by rw [h.state]; simp [casState, hz]
      count := Nat.zero_le _
      mispicks := Nat.zero_le _
      gone := fun _ => rfl }
  all_goals
    next hs =>
    obtain ⟨hd, hp⟩ := h.seated (by simp [hs]) (by simp [hs])
    exact casJudge_sound h hd hp (Nat.le_trans (Nat.sub_le _ _) h.count) h.loaded

theorem casMispick_sound {c : Cassette} (h : c.Sound) : (casMispick c).1.Sound := by
  unfold casMispick
  split
  next => exact h
  next => exact h
  next => exact { h with mispicks := Nat.min_le_left _ _ }
  all_goals
    next hs =>
    obtain ⟨hd, hp⟩ := h.seated (by simp [hs]) (by simp [hs])
    split
    next => exact { h with
      state := by simp [casState, hd, hp]
      count := Nat.zero_le _
      mispicks := Nat.le_refl _
      gone := fun _ => rfl }
    next hm => exact { h with mispicks := by simp; omega }

theorem casLoad_sound {c : Cassette} (h : c.Sound) (hu : c.state ≠ .unused) (ha : c.state ≠ .absent) {count : Nat}
    (hc : count ≤ 3000) : (casLoad count c).Sound := by
  obtain ⟨hd, hp⟩ := h.seated hu ha
  exact casJudge_sound h hd hp (Nat.le_refl _) hc

theorem casConfigure_sound {c : Cassette} {den nom l r count low : Nat} (hden : den ≤ 65535) (hnom : 120 ≤ nom ∧ nom ≤ 400)
    (hl : 8 ≤ l ∧ l ≤ 8184) (hr : 8 ≤ r ∧ r ≤ 8184) (hcount : count ≤ 3000) (hlow : low ≤ 3000) :
    (casConfigure den nom l r count low c).Sound where
  state := casJudge_state _
  denomination := hden
  nominal := hnom
  ref8L := hl
  ref8R := hr
  count := by simp only [casConfigure, casJudge]; split <;> omega
  loaded := hcount
  lowMark := hlow
  mispicks := Nat.zero_le _
  gone := fun hg => if_pos hg

/-- An accepted note moves the references and nothing else of its record (R35). -/
theorem learn_sound {c : Cassette} (h : c.Sound) (tL tR : Nat) :
    ({ c with ref8L := learn c.ref8L tL, ref8R := learn c.ref8R tR } : Cassette).Sound :=
  { h with ref8L := clampTo_bounds (by decide) _, ref8R := clampTo_bounds (by decide) _ }

/-! ### Which steps touch the records -/

section Frames

variable {s : State}

@[simp] theorem begun_cas : (begun s).cas = s.cas := rfl

theorem when_cas {f : State → State} (hf : ∀ u, (f u).cas = u.cas) (c : Bool) : (when c f s).cas = s.cas := by
  cases c
  · rfl
  · exact hf s

theorem carrying_cas {effect : State → State} (he : ∀ u, (effect u).cas = u.cas) (cls : BitVec 3) (kind : Nat) (f : RxFrame) :
    (carrying cls kind f effect s).cas = s.cas := by
  obtain ⟨-, h⟩ | h := carrying_cases s cls kind f effect
  · rw [h, he]
  · rw [h]

theorem receive_cas {effect : State → State} (he : ∀ u, (effect u).cas = u.cas) (f : RxFrame) :
    (receive f effect s).cas = s.cas := by
  unfold receive
  dsimp only
  split
  · split
    · simp
    · simp [he]
  · rfl

theorem unlessVoided_cas {taken : State → State} (ht : ∀ u, (taken u).cas = u.cas) (f : RxFrame) :
    (unlessVoided f taken s).cas = s.cas := by
  obtain ⟨-, h⟩ | ⟨-, h⟩ := unlessVoided_cases s f taken
  · simp [h]
  · rw [h, ht]

theorem checked_cas {effect : State → State × Reply} (he : ∀ u, (effect u).1.cas = u.cas) (checks : List (Bool × Code)) :
    (checked checks effect s).1.cas = s.cas := by
  unfold checked
  split
  · rfl
  · exact he s

theorem answer_cas (source : Station) (tag : Byte) (kind : BitVec 7) (reply : Reply) :
    (answer source tag kind reply s).cas = s.cas := by
  unfold answer
  split <;> simp

/-- A command's frame touches no record, whatever becomes of it, unless its service does. -/
theorem onCommand_cas {serve : List Byte → State → State × Reply} (hs : ∀ p u, (serve p u).1.cas = u.cas) (kind : BitVec 7)
    (source : Station) (payload : List Byte) : (onCommand kind source payload serve s).cas = s.cas := by
  unfold onCommand
  dsimp only
  repeat' split
  all_goals simp [answer_cas, hs]

theorem leadingEdge_cas : (leadingEdge s).cas = s.cas := by
  unfold leadingEdge
  repeat' split
  all_goals simp

theorem exitNote_cas (side : Side) : (exitNote side s).cas = s.cas := by
  unfold exitNote checkDrained
  dsimp only
  repeat' split
  all_goals simp

theorem exitPurge_cas (side : Side) : (exitPurge side s).cas = s.cas := by
  cases side <;> simp [exitPurge]

theorem clearFails_cas : (clearFails s).cas = s.cas := by simp [clearFails]

theorem closeBaseline_cas (l r : Nat) : (closeBaseline l r s).cas = s.cas := by simp [closeBaseline]

end Frames

/-- The commands whose rule writes a cassette record: the reset, CASSETTE_LOAD, CONFIG_CASSETTE, the presence lines, a mispick and
the trailing edge of a note (R3, R4, R6, R7, R9, R10, R18, R35). -/
def changesCassettes : Instr → Bool
  | .powerReset .. | .cassetteLoad .. | .configCassette .. | .cassetteRemoved _ | .cassetteInserted _ | .mispick _
  | .trailingEdge _ => true
  | _ => false

theorem exec_cas {c : Instr} {s t : State} (hc : changesCassettes c = false) (h : exec c s = .next t) : t.cas = s.cas := by
  cases c with
  | powerReset | cassetteLoad | configCassette | cassetteRemoved | cassetteInserted | mispick | trailingEdge => cases hc
  | joinBus | drawerSwitchesSettled | offerAtIdle | attemptLost | commandAck | formErrorBreak | frameVoided | quietTimeout
  | busStuck | busStuckRecovered | ownAttemptCompleted | ownAlarmCompleted | ownStatusCompleted | statusPeriod
  | ownReserveCompleted | peerAbsent | staleTimeout | listenInEnd =>
    simp only [exec, execJoinBus, execDrawerSwitchesSettled, execOfferAtIdle, execAttemptLost, execCommandAck, execFormErrorBreak,
      execFrameVoided, execQuietTimeout, execBusStuck, execBusStuckRecovered, execOwnAttemptCompleted, execOwnAlarmCompleted,
      execOwnStatusCompleted, execStatusPeriod, execOwnReserveCompleted, execPeerAbsent, execStaleTimeout, execListenInEnd] at h
    simp [act_next _ h, when_cas, apply_ite State.cas]
  | statusReceived | alarmReceived | reserveReceived | releaseReceived | binEmptiedReceived | forgetReceived
  | presenceOnlyFrame =>
    simp only [exec, execStatusReceived, execAlarmReceived, execReserveReceived, execReleaseReceived, execBinEmptiedReceived,
      execForgetReceived, execPresenceOnlyFrame] at h
    rw [act_next _ h]
    exact when_cas (fun u => unlessVoided_cas (fun v => by simp [receive_cas, carrying_cas]) _) _
  | chuteClaimReceived | chuteReleaseReceived =>
    simp only [exec, execChuteClaimReceived, execChuteReleaseReceived] at h
    rw [act_next _ h]
    refine when_cas (fun u => ?_) _
    split
    · simp
    · exact unlessVoided_cas (fun v => by simp [receive_cas, carrying_cas]) _
  | laneOpen | laneClose | dispense | dispenseMix | continueDispense | cancel | drawerOpen | drawerClose | envelopeCapture
  | envelopeReturn | imprintWrite | serviceBegin | serviceEnd | alarmAck | alarmReset | query | restart
  | configLane | configBins | configDone =>
    simp only [exec, execLaneOpen, execLaneClose, execDispense, execDispenseMix, execContinue, execCancel, execDrawerOpen,
      execDrawerClose, execEnvelopeCapture, execEnvelopeReturn, execImprintWrite, execServiceBegin,
      execServiceEnd, execAlarmAck, execAlarmReset, execQuery, execRestart, execConfigLane, execConfigBins, execConfigDone] at h
    rw [act_next _ h]
    refine onCommand_cas (fun p u => ?_) _ _ _
    simp [checked_cas, settled, apply_ite State.cas, apply_ite Prod.fst, capture, serveLaneOpen, serveLaneClose, dspDispenseMix,
      takeEnvelopeReturn, writeImprint, resetAlarms, takeRestart, configureLane, configureBins]
  | imprintField | binSet =>
    simp only [exec, execImprintField, execBinSet] at h
    rw [act_next _ h]
    exact onCommand_cas (fun p u => checked_cas (fun v => rfl) _) _ _ _
  | badCommand =>
    rw [act_next _ h]
    exact when_cas (fun u => onCommand_cas (fun p v => rfl) _ _ _) _
  | transportStall | baselineGateClosed | edgeCovered | noteGateClosed | longObject | exitArrival | noExit | exitBlocked
  | purgeDone | suspendTimeout =>
    simp only [exec, execTransportStall, execBaselineGateClosed, execEdgeCovered, execNoteGateClosed, execLongObject,
      execExitArrival, execNoExit, execExitBlocked, execPurgeDone, execSuspendTimeout] at h
    simp [act_next _ h, when_cas, advanceTransport, apply_ite State.cas, leadingEdge_cas, closeBaseline_cas, exitNote_cas,
      exitPurge_cas]
  | drawerMotionTimeout =>
    simp only [exec, execDrawerMotionTimeout] at h
    rw [act_next _ h]
    refine when_cas (fun u => ?_) _
    split <;> simp
  | trayChange | transferStrokeEnd | returnLoadTimeout | drawerExtended | drawerHome | safetyEdgePressed | safetyEdgeCleared
  | obstructionWaitEnd | trayEmptyTimeout | takeTimeout | depositTimeout | sweepEnd =>
    simp only [exec, execTrayChange, execTransferStrokeEnd, execReturnLoadTimeout, execDrawerExtended, execDrawerHome,
      execSafetyEdgePressed, execSafetyEdgeCleared, execObstructionWaitEnd, execTrayEmptyTimeout, execTakeTimeout,
      execDepositTimeout, execSweepEnd] at h
    simp [act_next _ h, when_cas, apply_ite State.cas]
  | printStrobe =>
    simp only [exec, execPrintStrobe] at h
    rw [act_next _ h]
    split
    · split <;> simp
    · rfl
  | envelopeSeated =>
    simp only [exec, execEnvelopeSeated] at h
    rw [act_next _ h]
    refine when_cas (fun u => ?_) _
    split <;> simp
  | intakeLeadingEdge | notDrawn | printWindowOpen | intakeTrailingEdge | intakeTooLong | seatTimeout | reversalEnd
  | reverseTimeout | intakeStall | ejectEnd | ejectTimeout | clearRunEnd | clearRunTimeout =>
    simp only [exec, execIntakeLeadingEdge, execNotDrawn, execPrintWindowOpen, execIntakeTrailingEdge, execIntakeTooLong,
      execSeatTimeout, execReversalEnd, execReverseTimeout, execIntakeStall, execEjectEnd, execEjectTimeout, execClearRunEnd,
      execClearRunTimeout] at h
    simp [act_next _ h, when_cas, advanceIntake, apply_ite State.cas, clearFails_cas]
  | gatePulse | gateTimeout | fairnessWaitEnd | loopChange | sirenToggle | sirenTimeout | serviceTimeout =>
    simp only [exec, execGatePulse, execGateTimeout, execFairnessWaitEnd, execLoopChange, execSirenToggle, execSirenTimeout,
      execServiceTimeout] at h
    simp [act_next _ h, when_cas, apply_ite State.cas]

/-! ### What the seven others write -/

theorem casApply_cas (k : Slot) (f : Cassette → Cassette × Option CasCause) (s : State) :
    (casApply k f s).cas = s.cas.set k (f (s.cas.get k)).1 := by
  obtain ⟨-, h⟩ | ⟨cause, -, h⟩ := casApply_cases s k f <;> simp [h]

theorem casReport_cas (k : Slot) (f : Cassette → Cassette × Option CasCause) (s : State) :
    (casReport k f s).cas = s.cas.set k (f (s.cas.get k)).1 := by
  rw [casReport, (dspSlotCheck_keeps _).1, casApply_cas]

theorem checkDrained_cas (s : State) : (checkDrained s).cas = s.cas := by
  unfold checkDrained
  dsimp only
  split <;> simp

namespace CassettesSound

variable {s t : State}

theorem of_cas_eq (hs : CassettesSound s) (h : t.cas = s.cas) : CassettesSound t := fun k => h ▸ hs k

/-- Four sound records stay so where one is replaced by a sound one. -/
theorem of_cas_set (hs : CassettesSound s) {k : Slot} {c : Cassette} (hc : c.Sound) (h : t.cas = s.cas.set k c) :
    CassettesSound t := by
  intro j
  rw [h]
  by_cases hj : j = k
  · rw [hj, Four.get_set_same]
    exact hc
  · rw [Four.get_set_other _ _ hj]
    exact hs j

theorem after_casReport {f : Cassette → Cassette × Option CasCause} (hf : ∀ {c}, c.Sound → (f c).1.Sound)
    (hs : CassettesSound s) (k : Slot) : CassettesSound (casReport k f s) :=
  hs.of_cas_set (hf (hs k)) (casReport_cas k f s)

theorem after_when {f : State → State} (hf : ∀ {u}, CassettesSound u → CassettesSound (f u)) (hs : CassettesSound s)
    (c : Bool) : CassettesSound (when c f s) := by
  cases c
  · exact hs
  · exact hf hs

theorem after_onCommand {serve : List Byte → State → State × Reply}
    (hserve : ∀ p {u}, CassettesSound u → CassettesSound (serve p u).1) (hs : CassettesSound s) (kind : BitVec 7)
    (source : Station) (payload : List Byte) : CassettesSound (onCommand kind source payload serve s) := by
  have hh : ∀ u : State, u.cas = s.cas → CassettesSound u := fun u => hs.of_cas_eq
  unfold onCommand
  dsimp only
  repeat' split
  · exact hh _ (by simp)
  · refine (hserve _ (hh _ ?_)).of_cas_eq (answer_cas _ _ _ _)
    simp
  · exact hh _ (by simp [answer_cas])
  · exact hh _ (by simp)
  · exact hs

theorem powerOn (station : Station) (slow : Bool) : CassettesSound (State.powerOn station slow) := fun k => by
  simpa [State.powerOn] using Cassette.reset_sound

/-- CASSETTE_LOAD writes a seated record alone (R9). -/
theorem after_serveLoad (hs : CassettesSound s) (source : Station) (slot count : Nat) :
    CassettesSound (serveLoad source slot count s).1 := by
  unfold serveLoad
  split
  · exact hs
  · split
    · exact hs
    · split
      · exact hs
      · next k _ =>
        split
        · exact hs
        · next hseated =>
          rw [not_or] at hseated
          refine hs.of_cas_set (k := k) (casLoad_sound (hs k) hseated.1 hseated.2 (clampTo_bounds (Nat.zero_le _) count).2) ?_
          exact casApply_cas k _ s

/-- CONFIG_CASSETTE writes a record of clamped values (R10, R182). -/
theorem after_configureCassette (hs : CassettesSound s) (p : List Byte) : CassettesSound (configureCassette p s).1 := by
  unfold configureCassette
  split
  · exact hs
  · next k _ =>
    refine hs.of_cas_set (k := k) ?_ (Four.modify_eq_set _ _ _)
    exact casConfigure_sound (Nat.le_of_lt_succ (field_lt p 2 2)) (clampTo_bounds (by decide) _) (clampTo_bounds (by decide) _)
      (clampTo_bounds (by decide) _) (clampTo_bounds (by decide) _).2 (clampTo_bounds (by decide) _).2

theorem after_endMispick (hs : CassettesSound s) : CassettesSound (endMispick s) := by
  unfold endMispick
  split
  · exact hs
  · next r _ =>
    refine of_cas_eq ?_ (checkDrained_cas _)
    have hr : CassettesSound { s with ntg.records := removeFirst .picked s.ntg.records } := hs
    cases r.slot with
    | none => exact hr
    | some k => exact hr.after_casReport casMispick_sound k

/-- A delivery reported from any state with these records. -/
theorem after_delivery (hs : CassettesSound s) (h : t.cas = s.cas) (k : Slot) (estimate : Nat) :
    CassettesSound (casReport k (casDeliver estimate) t) :=
  (hs.of_cas_eq h).after_casReport (fun hc => casDeliver_sound hc estimate) k

theorem after_learnFrom (hs : CassettesSound s) (k : Slot) (tL tR : Nat) : CassettesSound (learnFrom k tL tR s) :=
  hs.of_cas_set (k := k) (learn_sound (hs k) tL tR) rfl

/-- A measured note leaves its slot's count, and an ACCEPT teaches its references (R6, R35). -/
theorem after_trailNote (hs : CassettesSound s) (r : ObjRec) : CassettesSound (trailNote r s) := by
  unfold trailNote
  dsimp only
  split
  · exact hs
  · next k _ =>
    split
    · refine after_learnFrom (hs.after_delivery ?_ k _) k _ _
      rfl
    · refine hs.after_delivery ?_ k _
      rfl

/-- An object of a purge run that had left its slot unreported leaves the slot's count (R40). -/
theorem after_trailPurge (hs : CassettesSound s) (r : ObjRec) : CassettesSound (trailPurge r s) := by
  unfold trailPurge
  dsimp only
  split
  · refine hs.after_delivery ?_ _ 1
    rfl
  · exact hs

theorem after_trailing (hs : CassettesSound s) : CassettesSound (trailing s) := by
  unfold trailing
  split
  · exact hs
  · split
    · exact hs.after_trailNote _
    · split
      · exact hs.after_trailPurge _
      · exact hs

/-- Every command keeps the four records sound: most write none of them, the others by rules that do. -/
theorem after_exec {c : Instr} (hs : CassettesSound s) (h : exec c s = .next t) : CassettesSound t := by
  cases hc : changesCassettes c with
  | false => exact hs.of_cas_eq (exec_cas hc h)
  | true =>
    have hb : CassettesSound (begun s) := hs
    cases c with
    | powerReset station slow =>
      simp only [exec, execPowerReset] at h
      rw [act_next _ h]
      exact powerOn station slow
    | cassetteLoad source payload =>
      rw [act_next _ h]
      exact hb.after_onCommand (fun p _ hu => hu.after_serveLoad source _ _) _ _ _
    | configCassette source payload =>
      rw [act_next _ h]
      refine hb.after_onCommand (fun p u hu => ?_) _ _ _
      unfold checked
      split
      · exact hu
      · exact hu.after_configureCassette p
    | cassetteRemoved slot =>
      rw [act_next _ h]
      exact hb.after_when (fun hu => (hu.after_casReport casRemove_sound slot).of_cas_eq (by simp)) _
    | cassetteInserted slot =>
      rw [act_next _ h]
      exact hb.after_when (fun hu => hu.after_casReport casInsert_sound slot) _
    | mispick path =>
      simp only [exec, execMispick] at h
      rw [act_next _ h]
      exact after_when (s := advanceTransport path (begun s)) (fun hu => hu.after_endMispick.of_cas_eq (by simp)) hb _
    | trailingEdge path =>
      simp only [exec, execTrailingEdge] at h
      rw [act_next _ h]
      refine after_when (s := advanceTransport path (begun s)) (fun {u} hu => ?_) hb _
      have he : CassettesSound { u with ntg.edge := false } := hu
      exact he.after_trailing.of_cas_eq (by simp)
    | _ => cases hc

end CassettesSound

/-- Settles O51: a command keeps the records, or writes one by a rule that keeps it sound; time and the queue touch none. -/
theorem cassettesStaySound : Obligations.CassettesStaySound := by
  unfold Obligations.CassettesStaySound
  intro s t hs h
  exact step_keeps (P := CassettesSound) (fun _ _ hs => hs) (fun _ hs => hs) (fun _ _ _ hs h => hs.after_exec h) hs h

end Machine

end Sys2Proof
end

section
/-!
PROOF. The dispense: the mix order, the pick list in its bundles, the counts of an asked mix, and what DISPENSE and DISPENSE_MIX do
once the start checks have passed.
-/

namespace Sys2Proof

@[simp] theorem Slot.mem_all (k : Slot) : k ∈ Slot.all := by cases k <;> decide

theorem Slot.number_injective : Function.Injective Slot.number := by
  intro j k h
  cases j <;> cases k <;> first | rfl | cases h

namespace Machine

/-! ### Taken commands -/

/-- A taken command does what its block's service makes of the state, with the service's answer in the reserved position. -/
theorem command_answers {s : State} {source : Station} {kind : BitVec 7} {tag : Byte} {rest : List Byte}
    (h : Taken s source kind (tag :: rest)) (hl : lengthAllowed kind (rest.length + 1) = true)
    {serve : List Byte → State → State × Reply} {u : State} {code : Code} {detail : List Byte}
    (hr : serve (tag :: rest) (atCommand s source) = (u, some (code, detail))) :
    act (onCommand kind source (tag :: rest) serve) s = .next (replied source tag kind code detail u) := by
  rw [act_eq, onCommand_taken s h hl, hr]
  rfl

section

variable (s : State) (source : Station)

@[simp] theorem atCommand_cas : (atCommand s source).cas = s.cas := (hear_keeps source (begun s)).1
@[simp] theorem atCommand_dsp : (atCommand s source).dsp = s.dsp := (atCommand_keeps s source).2.2.1
@[simp] theorem atCommand_lsv : (atCommand s source).lsv = s.lsv := (atCommand_keeps s source).2.2.2.2.2.2.2.1
@[simp] theorem atCommand_owner : (atCommand s source).cmd.owner = s.cmd.owner :=
  (atCommand_keeps s source).2.2.2.2.2.2.2.2.2.1

end

/-- A service whose checks all pass is its effect. -/
theorem checked_eq {s : State} {checks : List (Bool × Code)} (h : ∀ c ∈ checks, c.1 = false)
    (effect : State → State × Reply) : checked checks effect s = effect s :=
  checked_passed s ((firstFailing_none_iff checks).2 h) effect

/-! ### The mix order (R13) -/

theorem mixBefore_iff (cas : Four Cassette) (j k : Slot) :
    mixBefore cas j k = true ↔ (cas.get k).denomination < (cas.get j).denomination
      ∨ ((cas.get j).denomination = (cas.get k).denomination ∧ j.number < k.number) := by
  simp [mixBefore]

theorem mixBefore_trans {cas : Four Cassette} {i j k : Slot} (h : mixBefore cas i j = true) (h' : mixBefore cas j k = true) :
    mixBefore cas i k = true := by
  rw [mixBefore_iff] at *
  omega

theorem mixBefore_of_not {cas : Four Cassette} {j k : Slot} (hne : j ≠ k) (h : ¬ mixBefore cas j k = true) :
    mixBefore cas k j = true := by
  have := mt (@Slot.number_injective j k) hne
  rw [mixBefore_iff] at *
  omega

theorem insertSlot_perm (cas : Four Cassette) (k : Slot) (l : List Slot) : (insertSlot cas k l).Perm (k :: l) := by
  induction l with
  | nil => exact .refl _
  | cons j l ih =>
    unfold insertSlot
    split
    · exact .refl _
    · exact (ih.cons j).trans (.swap k j l)

theorem insertSlot_pairwise {cas : Four Cassette} {k : Slot} {l : List Slot} (hk : k ∉ l)
    (hl : l.Pairwise (fun i j => mixBefore cas i j = true)) :
    (insertSlot cas k l).Pairwise (fun i j => mixBefore cas i j = true) := by
  induction l with
  | nil => exact List.pairwise_singleton _ _
  | cons j l ih =>
    obtain ⟨hj, hl'⟩ := List.pairwise_cons.1 hl
    obtain ⟨hkj, hkl⟩ : k ≠ j ∧ k ∉ l := by simpa using hk
    unfold insertSlot
    split
    next hb =>
      refine List.pairwise_cons.2 ⟨fun i hi => ?_, hl⟩
      rcases List.mem_cons.1 hi with rfl | hi
      · exact hb
      · exact mixBefore_trans hb (hj i hi)
    next hb =>
      refine List.pairwise_cons.2 ⟨fun i hi => ?_, ih hkl hl'⟩
      rcases List.mem_cons.1 ((insertSlot_perm cas k l).mem_iff.1 hi) with rfl | hi
      · exact mixBefore_of_not hkj hb
      · exact hj i hi

theorem mixOrder_perm (cas : Four Cassette) (l : List Slot) : (mixOrder cas l).Perm l := by
  induction l with
  | nil => exact .refl _
  | cons k l ih => exact (insertSlot_perm cas k _).trans (ih.cons k)

theorem mixOrder_pairwise (cas : Four Cassette) {l : List Slot} (hl : l.Nodup) :
    (mixOrder cas l).Pairwise (fun i j => mixBefore cas i j = true) := by
  induction l with
  | nil => exact .nil
  | cons k l ih =>
    obtain ⟨hk, hl'⟩ := List.nodup_cons.1 hl
    exact insertSlot_pairwise (mt (mixOrder_perm cas l).mem_iff.1 hk) (ih hl')

/-! ### The pick list (R48) -/

theorem ordered_append (l l' : List Entry) : ordered (l ++ l') = ordered l ++ ordered l' := List.flatMap_append

/-- Two PICK entries next to each other are of different slots. -/
def Apart (a b : Entry) : Prop := a.kind = .pick → b.kind = .pick → a.slot ≠ b.slot

/-- The entries of one slot: fresh, each a PICK of the slot with 1 to `limit` notes or the close of a bundle that is not the last. -/
theorem placeCount_entries {limit : Nat} {k : Slot} {fuel room n : Nat} (hroom : room ≤ limit) :
    ∀ e ∈ (placeCount limit k fuel room n).1,
      e = closeEntry .present ∨ ∃ w, e = pickEntry k w ∧ 1 ≤ w ∧ w ≤ limit := by
  induction fuel generalizing room n with
  | zero => simp [placeCount]
  | succ fuel ih =>
    unfold placeCount
    split
    · simp
    · split
      · intro e he
        rcases List.mem_cons.1 he with rfl | he
        · exact .inl rfl
        · exact ih (Nat.le_refl _) e he
      · split
        · intro e he
          obtain rfl := List.mem_singleton.1 he
          exact .inr ⟨n, rfl, by omega, by omega⟩
        · intro e he
          rcases List.mem_cons.1 he with rfl | he
          · exact .inr ⟨room, rfl, by omega, hroom⟩
          · exact ih (Nat.zero_le _) e he

/-- With fuel for a close and a pick for each note, every note is placed. -/
theorem placeCount_ordered {limit : Nat} {k : Slot} (hlimit : 1 ≤ limit) {fuel room n : Nat}
    (hfull : room = 0 → 2 * n ≤ fuel) (hfuel : 2 * n ≤ fuel + 1) :
    ordered (placeCount limit k fuel room n).1 = List.replicate n k := by
  induction fuel generalizing room n with
  | zero =>
    obtain rfl : n = 0 := by omega
    rfl
  | succ fuel ih =>
    unfold placeCount
    split
    next h => rw [h]; rfl
    next h =>
      split
      next h0 => exact ih (by omega) (by have := hfull h0; omega)
      next h0 =>
        split
        next => simp [ordered, pickEntry]
        next =>
          calc _ = List.replicate room k ++ ordered (placeCount limit k fuel 0 (n - room)).1 := rfl
            _ = List.replicate n k := by
              rw [ih (by omega) (by omega), List.replicate_append_replicate, Nat.add_sub_cancel' (by omega)]

/-- Each close of a slot's entries closes a full bundle. -/
theorem placeCount_bundles {limit : Nat} {k : Slot} (hlimit : 1 ≤ limit) {fuel room n : Nat} (hroom : room ≤ limit)
    (hfull : room = 0 → 2 * n ≤ fuel) (hfuel : 2 * n ≤ fuel + 1) (l : List Entry) :
    ∃ full, bundleSizes (limit - room) ((placeCount limit k fuel room n).1 ++ l)
      = List.replicate full limit ++ bundleSizes (limit - (placeCount limit k fuel room n).2) l := by
  induction fuel generalizing room n with
  | zero => exact ⟨0, rfl⟩
  | succ fuel ih =>
    unfold placeCount
    split
    next h => exact ⟨0, rfl⟩
    next h =>
      split
      next h0 =>
        obtain ⟨full, ih⟩ := ih (room := limit) (n := n) (Nat.le_refl _) (by omega) (by have := hfull h0; omega)
        rw [Nat.sub_self] at ih
        exact ⟨full + 1, h0 ▸ congrArg (limit :: ·) ih⟩
      next h0 =>
        split
        next =>
          refine ⟨0, ?_⟩
          change bundleSizes (limit - room + n) l = _
          rw [List.replicate_zero, List.nil_append, show limit - (room - n) = limit - room + n by omega]
        next =>
          obtain ⟨full, ih⟩ := ih (room := 0) (n := n - room) (Nat.zero_le _) (by omega) (by omega)
          refine ⟨full, ?_⟩
          rw [← ih]
          change bundleSizes (limit - room + room) _ = _
          rw [Nat.sub_add_cancel hroom, Nat.sub_zero]
          rfl

/-- What a slot leaves of the bundle, which holds a note once the slot has placed one. -/
theorem placeCount_room {limit : Nat} {k : Slot} (hlimit : 1 ≤ limit) {fuel room n : Nat} (hroom : room ≤ limit)
    (hfull : room = 0 → 2 * n ≤ fuel) (hfuel : 2 * n ≤ fuel + 1) :
    (placeCount limit k fuel room n).2 ≤ limit ∧ (1 ≤ n → (placeCount limit k fuel room n).2 < limit)
    ∧ (n = 0 → (placeCount limit k fuel room n).2 = room) := by
  induction fuel generalizing room n with
  | zero => exact ⟨hroom, by omega, fun _ => rfl⟩
  | succ fuel ih =>
    unfold placeCount
    split
    next h => exact ⟨hroom, by omega, fun _ => rfl⟩
    next h =>
      split
      next h0 =>
        obtain ⟨h1, h2, -⟩ := ih (room := limit) (n := n) (Nat.le_refl _) (by omega) (by have := hfull h0; omega)
        exact ⟨h1, h2, by omega⟩
      next h0 =>
        split
        next => dsimp only; omega
        next =>
          obtain ⟨h1, h2, -⟩ := ih (room := 0) (n := n - room) (Nat.zero_le _) (by omega) (by omega)
          exact ⟨h1, fun _ => h2 (by omega), by omega⟩

/-- Each two entries that stand next to each other are apart. -/
def AdjacentApart : List Entry → Prop
  | [] => True
  | e :: rest => (∀ f ∈ rest.head?, Apart e f) ∧ AdjacentApart rest

theorem AdjacentApart.append {l l' : List Entry} (h : AdjacentApart l) (h' : AdjacentApart l')
    (hends : ∀ a ∈ l.getLast?, ∀ b ∈ l'.head?, Apart a b) : AdjacentApart (l ++ l') := by
  induction l with
  | nil => exact h'
  | cons e rest ih =>
    obtain ⟨hfirst, hrest⟩ := h
    cases rest with
    | nil => exact ⟨hends e rfl, h'⟩
    | cons f rest => exact ⟨hfirst, ih hrest hends⟩

theorem AdjacentApart.getElem? {l : List Entry} (h : AdjacentApart l) {i : Nat} {a b : Entry} (ha : l[i]? = some a)
    (hb : l[i + 1]? = some b) : Apart a b := by
  induction l generalizing i with
  | nil => cases ha
  | cons e rest ih =>
    obtain ⟨hfirst, hrest⟩ := h
    cases i with
    | zero =>
      obtain rfl : e = a := Option.some.inj ha
      exact hfirst b (List.head?_eq_getElem?.trans hb)
    | succ i => exact ih hrest ha hb

/-- A full bundle is closed before the slot's next note, so that no two of its PICK entries stand next to each other. -/
theorem placeCount_apart {limit : Nat} {k : Slot} {fuel room n : Nat} :
    AdjacentApart (placeCount limit k fuel room n).1
    ∧ (room = 0 → ∀ e ∈ (placeCount limit k fuel room n).1.head?, e.kind ≠ .pick) := by
  induction fuel generalizing room n with
  | zero => exact ⟨trivial, fun _ e he => nomatch he⟩
  | succ fuel ih =>
    unfold placeCount
    split
    next => exact ⟨trivial, fun _ e he => nomatch he⟩
    next =>
      split
      next =>
        refine ⟨ ⟨fun e _ h => ?_, ih.1⟩, by simp [closeEntry]⟩
        cases h
      next h0 =>
        split
        next => exact ⟨⟨fun e he => (nomatch he), trivial⟩, fun h => absurd h h0⟩
        next =>
          exact ⟨⟨fun e he _ h => absurd h (ih.2 rfl e he), ih.1⟩, fun h => absurd h h0⟩

theorem buildList_cons (limit room : Nat) (k : Slot) (n : Nat) (mix : Mix) :
    buildList limit room ((k, n) :: mix) = (placeCount limit k (2 * n + 1) room n).1
      ++ buildList limit (placeCount limit k (2 * n + 1) room n).2 mix := rfl

/-- Every entry of a pick list is fresh, and a PICK is of a slot of the mix with 1 to `limit` notes. -/
theorem buildList_entries {limit room : Nat} {mix : Mix} (hlimit : 1 ≤ limit) (hroom : room ≤ limit) :
    ∀ e ∈ buildList limit room mix, (e.state = .pending ∧ e.done = 0)
      ∧ (e.kind = .pick → e.slot ∈ mix.map (fun p => p.1) ∧ 1 ≤ e.wanted ∧ e.wanted ≤ limit) := by
  induction mix generalizing room with
  | nil => simp [buildList, closeEntry]
  | cons p mix ih =>
    obtain ⟨k, n⟩ := p
    intro e he
    rw [buildList_cons] at he
    rcases List.mem_append.1 he with he | he
    · rcases placeCount_entries hroom e he with rfl | ⟨w, rfl, h1, h2⟩
      · simp [closeEntry]
      · simp [pickEntry, h1, h2]
    · obtain ⟨hf, hp⟩ := ih (placeCount_room hlimit hroom (by omega) (by omega)).1 e he
      exact ⟨hf, fun h => ⟨List.mem_cons_of_mem _ (hp h).1, (hp h).2⟩⟩

theorem buildList_ordered {limit room : Nat} (mix : Mix) (hlimit : 1 ≤ limit) (hroom : room ≤ limit) :
    ordered (buildList limit room mix) = mix.flatMap (fun p => List.replicate p.2 p.1) := by
  induction mix generalizing room with
  | nil => rfl
  | cons p mix ih =>
    obtain ⟨k, n⟩ := p
    rw [buildList_cons, ordered_append, placeCount_ordered hlimit (by omega) (by omega),
      ih (placeCount_room hlimit hroom (by omega) (by omega)).1]
    rfl

theorem buildList_bundles {limit room : Nat} (mix : Mix) (hlimit : 1 ≤ limit) (hroom : room ≤ limit) :
    ∃ full last, bundleSizes (limit - room) (buildList limit room mix) = List.replicate full limit ++ [last]
      ∧ last ≤ limit ∧ (1 ≤ limit - room + (mix.map (fun p => p.2)).sum → 1 ≤ last) := by
  induction mix generalizing room with
  | nil => exact ⟨0, limit - room, rfl, by omega, by simp⟩
  | cons p mix ih =>
    obtain ⟨k, n⟩ := p
    obtain ⟨hr, hpos, hzero⟩ := placeCount_room (k := k) (n := n) (fuel := 2 * n + 1) hlimit hroom (by omega) (by omega)
    obtain ⟨first, hfirst⟩ := placeCount_bundles (k := k) (n := n) (fuel := 2 * n + 1) hlimit hroom (by omega) (by omega)
      (buildList limit (placeCount limit k (2 * n + 1) room n).2 mix)
    obtain ⟨full, last, hsizes, hlast, hnotes⟩ := ih hr
    refine ⟨first + full, last, ?_, hlast, fun h => hnotes ?_⟩
    · rw [buildList_cons, hfirst, hsizes, ← List.append_assoc, List.replicate_append_replicate]
    · rw [List.map_cons, List.sum_cons] at h
      omega

theorem buildList_apart {limit room : Nat} {mix : Mix} (hlimit : 1 ≤ limit) (hroom : room ≤ limit)
    (hmix : (mix.map (fun p => p.1)).Nodup) : AdjacentApart (buildList limit room mix) := by
  induction mix generalizing room with
  | nil => exact ⟨fun e he => (nomatch he), trivial⟩
  | cons p mix ih =>
    obtain ⟨k, n⟩ := p
    obtain ⟨hk, hmix⟩ := List.nodup_cons.1 hmix
    have hr := (placeCount_room (k := k) (n := n) (fuel := 2 * n + 1) hlimit hroom (by omega) (by omega)).1
    rw [buildList_cons]
    refine placeCount_apart.1.append (ih hr hmix) fun a ha b hb hap hbp hslot => hk ?_
    have hb' := ((buildList_entries hlimit hr b (List.mem_of_mem_head? hb)).2 hbp).1
    rcases placeCount_entries hroom a (List.mem_of_mem_getLast? ha) with rfl | ⟨w, rfl, -⟩
    · cases hap
    · rwa [← hslot] at hb'

theorem buildList_ends {limit room : Nat} (mix : Mix) (hlimit : 1 ≤ limit) (hroom : room ≤ limit) :
    ∃ front, buildList limit room mix = front ++ [closeEntry .presentFinal] ∧ ∀ e ∈ front, e.kind ≠ .presentFinal := by
  induction mix generalizing room with
  | nil => exact ⟨[], rfl, by simp⟩
  | cons p mix ih =>
    obtain ⟨k, n⟩ := p
    obtain ⟨front, hfront, hkind⟩ :=
      ih (placeCount_room (k := k) (n := n) (fuel := 2 * n + 1) hlimit hroom (by omega) (by omega)).1
    refine ⟨(placeCount limit k (2 * n + 1) room n).1 ++ front, by rw [buildList_cons, hfront, List.append_assoc], ?_⟩
    intro e he
    rcases List.mem_append.1 he with he | he
    · rcases placeCount_entries hroom e he with rfl | ⟨w, rfl, -⟩ <;> simp [closeEntry, pickEntry]
    · exact hkind e he

/-- The pick list of a mix fills bundles of `limit` notes in the mix's order (R48). -/
theorem buildList_listOf {limit held : Nat} {mix : Mix} (hlimit : 1 ≤ limit) (hheld : held ≤ limit)
    (hmix : (mix.map (fun p => p.1)).Nodup) : ListOf limit held mix (buildList limit (limit - held) mix) where
  fresh := fun e he => (buildList_entries hlimit (Nat.sub_le _ _) e he).1
  notes := buildList_ordered mix hlimit (Nat.sub_le _ _)
  wanted := fun e he h => ((buildList_entries hlimit (Nat.sub_le _ _) e he).2 h).2
  merged := fun _ _ _ ha hb => (buildList_apart hlimit (Nat.sub_le _ _) hmix).getElem? ha hb
  bundles := by
    have h := buildList_bundles mix hlimit (Nat.sub_le limit held)
    rwa [Nat.sub_sub_self hheld] at h
  ends := buildList_ends mix hlimit (Nat.sub_le _ _)

/-! ### The mix a DISPENSE_MIX asks for (R16, R17) -/

/-- What is summed over an asked mix is summed over the slots it names, since the others have a count of 0. -/
theorem askedMix_sum (cas : Four Cassette) (counts : Four Nat) (g : Slot × Nat → Nat) (hg : ∀ k, g (k, 0) = 0) :
    ((askedMix cas counts).map g).sum = (Slot.all.map (fun k => g (k, counts.get k))).sum := by
  have hp : ((askedMix cas counts).map g).Perm
      ((Slot.all.filter (fun k => 0 < counts.get k)).map (fun k => g (k, counts.get k))) := by
    rw [askedMix, List.map_map]
    exact (mixOrder_perm cas _).map _
  rw [hp.sum_nat]
  have hz : ∀ l : List Slot, ((l.filter (fun k => 0 < counts.get k)).map (fun k => g (k, counts.get k))).sum
      = (l.map (fun k => g (k, counts.get k))).sum := by
    intro l
    induction l with
    | nil => rfl
    | cons k l ih =>
      by_cases hk : 0 < counts.get k
      · simp [hk, ih]
      · simp [ih, Nat.eq_zero_of_not_pos hk, hg]
  exact hz _

theorem askedMix_countOf (cas : Four Cassette) (counts : Four Nat) (k : Slot) :
    (askedMix cas counts).countOf k = counts.get k := by
  have hs : ∀ m : Mix, m.countOf k = (m.map (fun e => if e.1 = k then e.2 else 0)).sum := by
    intro m
    induction m with
    | nil => rfl
    | cons e m ih =>
      by_cases he : e.1 = k
      · simp [Mix.countOf, he, ← ih]
      · simp [Mix.countOf, he, ← ih]
  rw [hs, askedMix_sum cas counts _ (by simp)]
  cases k <;> simp [Slot.all, Four.get]

theorem askedMix_value (cas : Four Cassette) (counts : Four Nat) :
    (askedMix cas counts).value cas = (Slot.all.map (fun k => counts.get k * (cas.get k).denomination)).sum :=
  askedMix_sum cas counts (fun e => e.2 * (cas.get e.1).denomination) (by simp)

theorem askedMix_slots (cas : Four Cassette) (counts : Four Nat) :
    (askedMix cas counts).slots = ⟨0 < counts.one, 0 < counts.two, 0 < counts.three, 0 < counts.four⟩ := by
  simp only [Mix.slots, askedMix_countOf]
  rfl

theorem mixCounts_bytes (tag a b c d : Byte) : mixCounts [tag, a, b, c, d] = ⟨a.toNat, b.toNat, c.toNat, d.toNat⟩ := by
  simp [mixCounts, field, beNat]

theorem be1_toNat (a : Byte) : be1 a.toNat = [a] := by simp [be1, byteOf]

theorem askedMix_detail (cas : Four Cassette) (a b c d : Byte) :
    (askedMix cas ⟨a.toNat, b.toNat, c.toNat, d.toNat⟩).detail = [a, b, c, d] := by
  simp [Mix.detail, Slot.all, askedMix_countOf, Four.get, be1_toNat]

/-! ### The start checks (R46) -/

theorem openTo_atCommand {s : State} {source : Station} (h : OpenTo s source) : OpenTo (atCommand s source) source := by
  simpa [OpenTo, OwnerPasses, atCommand_keeps] using h

theorem mayDispense_atCommand {s : State} (source : Station) (h : MayDispense s) : MayDispense (atCommand s source) where
  silent := by simpa [State.silent, atCommand_keeps] using h.silent
  lock := by simpa [State.lockdown, atCommand_keeps] using h.lock
  idle := by simpa [atCommand_keeps] using h.idle
  listen := by simpa [State.listening, atCommand_keeps] using h.listen
  reject := by simpa [atCommand_keeps] using h.reject
  retract := by simpa [atCommand_keeps] using h.retract

theorem openChecks_pass {s : State} {source : Station} (h : OpenTo s source) : ∀ c ∈ openChecks source s, c.1 = false := by
  obtain ⟨ho, hw⟩ := h
  rcases hw with hw | hw <;> simp [openChecks, ho, hw]

theorem dispenseChecks_pass {s : State} {source : Station} (ho : OpenTo s source) (hm : MayDispense s) :
    ∀ c ∈ dispenseChecks source s, c.1 = false := by
  intro c hc
  rcases List.mem_append.1 hc with hc | hc
  · exact openChecks_pass ho c hc
  · obtain ⟨hs, hl, hi, hn, hj, ht⟩ := hm
    simp only [List.mem_cons, List.not_mem_nil, or_false] at hc
    rcases hc with rfl | rfl | rfl | rfl | rfl | rfl <;> simp [*]

theorem dspAccept_atCommand (amount : Nat) (mix : Mix) (s : State) (source : Station) :
    dspAccept amount mix (atCommand s source) = { atCommand s source with
      biu.wallQueue := s.biu.wallQueue ++ [.reserve amount],
      dsp := { s.dsp with
        state := .reserving, amount := amount, delivered := 0, paid := 0, inStacker := 0, stackerCount := 0, taken := 0,
        retracted := 0, rejected := 0, rejectEvents := 0, picked := Four.replicate 0, mixSlots := mix.slots, bundle := 1,
        reservation := .queued, cancelMark := false, lockMark := false, pendingEnd := none, suspendTimer := none,
        pickList := buildList s.dsp.bundleLimit s.dsp.bundleLimit mix, dispensing := true, withdrawPending := false } } := by
  simp [dspAccept, queueWall, atCommand_keeps]

/-- DISPENSE with its start checks passed answers as the search and the amount say. -/
theorem dispense_answers {s : State} {source : Station} {tag a b c d : Byte} (ho : OpenTo s source) (hm : MayDispense s)
    (ht : Taken s source 18 [tag, a, b, c, d]) {u : State} {code : Code} {detail : List Byte}
    (h : dspDispense (beNat [a, b, c, d]) (atCommand s source) = (u, some (code, detail))) :
    exec (.dispense source [tag, a, b, c, d]) s = .next (replied source tag 18 code detail u) :=
  command_answers ht rfl
    ((checked_eq (dispenseChecks_pass (openTo_atCommand ho) (mayDispense_atCommand source hm)) _).trans h)

/-- DISPENSE_MIX with its start checks passed answers as R17's checks say. -/
theorem dispenseMix_answers {s : State} {source : Station} {tag a b c d : Byte} (ho : OpenTo s source) (hm : MayDispense s)
    (ht : Taken s source 19 [tag, a, b, c, d]) {u : State} {code : Code} {detail : List Byte}
    (h : dspDispenseMix ⟨a.toNat, b.toNat, c.toNat, d.toNat⟩ (atCommand s source) = (u, some (code, detail))) :
    exec (.dispenseMix source [tag, a, b, c, d]) s = .next (replied source tag 19 code detail u) :=
  command_answers ht rfl
    ((checked_eq (dispenseChecks_pass (openTo_atCommand ho) (mayDispense_atCommand source hm)) _).trans
      (mixCounts_bytes tag a b c d ▸ h))

/-- DISPENSE_MIX by what its counts meet (R17). -/
theorem dspDispenseMix_cases (n : Four Nat) (s : State) :
    (n.toList.sum = 0 ∨ (∃ k, 0 < n.get k ∧ (s.cas.get k).state.eligible = false) ∨ 4 * s.dsp.bundleLimit < n.toList.sum →
      dspDispenseMix n s = (s, plain .badParam)) ∧
    (0 < n.toList.sum → (∀ k, 0 < n.get k → (s.cas.get k).state.eligible = true) →
      n.toList.sum ≤ 4 * s.dsp.bundleLimit →
      ((∃ k, (s.cas.get k).count < n.get k) → dspDispenseMix n s = (s, plain .notMakeable)) ∧
      ((∀ k, n.get k ≤ (s.cas.get k).count) → dspDispenseMix n s
        = (dspAccept ((askedMix s.cas n).value s.cas) (askedMix s.cas n) s, some (.ok, (askedMix s.cas n).detail)))) := by
  have hslot : Slot.all.any (fun k => 0 < n.get k && !(s.cas.get k).state.eligible) = true
      ↔ ∃ k, 0 < n.get k ∧ (s.cas.get k).state.eligible = false := by simp
  have hcount : Slot.all.any (fun k => decide ((s.cas.get k).count < n.get k)) = true
      ↔ ∃ k, (s.cas.get k).count < n.get k := by simp
  refine ⟨fun h => checked_refused s ?_ _, fun hsum hall hlimit => ?_⟩
  · simp only [mixChecks, firstFailing_cons, decide_eq_true_eq]
    by_cases h1 : n.toList.sum = 0
    · rw [if_pos h1]
    · by_cases h2 : ∃ k, 0 < n.get k ∧ (s.cas.get k).state.eligible = false
      · rw [if_neg h1, if_pos (hslot.2 h2)]
      · rw [if_neg h1, if_neg (mt hslot.1 h2), if_pos ((h.resolve_left h1).resolve_left h2)]
  · have h1 : ¬ n.toList.sum = 0 := by omega
    have h2 : ¬ ∃ k, 0 < n.get k ∧ (s.cas.get k).state.eligible = false := by
      rintro ⟨k, hk, he⟩
      rw [hall k hk] at he
      cases he
    have h3 : ¬ 4 * s.dsp.bundleLimit < n.toList.sum := by omega
    refine ⟨fun h => checked_refused s ?_ _, fun h => checked_passed s ?_ _⟩
    all_goals
      simp only [mixChecks, firstFailing_cons, decide_eq_true_eq]
      rw [if_neg h1, if_neg (mt hslot.1 h2), if_neg h3]
    · rw [if_pos (hcount.2 h)]
    · rw [if_neg (mt hcount.1 (by simpa using h)), firstFailing_nil]

/-- Settles O19: the search's answer or the asked counts decide DISPENSE and DISPENSE_MIX; the order is a sorted arrangement and the
pick list is built slot by slot. -/
theorem dispenseAccepted : Obligations.DispenseAccepted := by
  unfold Obligations.DispenseAccepted
  refine ⟨?_, ?_, ?_⟩
  · intro s source tag a b c d ho hm
    refine ⟨fun ht => ⟨fun hr => ?_, fun h1 h2 => ⟨fun hn => ?_, fun mix hmix => ?_⟩⟩, fun ht n hn => ?_⟩
    · refine dispense_answers ho hm ht ?_
      rw [dspDispense, if_pos (by exact hr)]
      rfl
    · refine dispense_answers ho hm ht ?_
      rw [dspDispense, if_neg (by simp only [Config.maxAmount]; omega), atCommand_cas, atCommand_dsp, hn]
      rfl
    · refine dispense_answers ho hm ht ?_
      rw [dspDispense, if_neg (by simp only [Config.maxAmount]; omega), atCommand_cas, atCommand_dsp, hmix]
      dsimp only
      rw [dspAccept_atCommand]
      simp [Mix.detail, Slot.all]
    · subst hn
      obtain ⟨hbad, hgood⟩ := dspDispenseMix_cases ⟨a.toNat, b.toNat, c.toNat, d.toNat⟩ (atCommand s source)
      rw [atCommand_cas, atCommand_dsp] at hbad hgood
      refine ⟨fun h => dispenseMix_answers ho hm ht (hbad h), fun hsum hall hlimit => ?_⟩
      obtain ⟨hno, hyes⟩ := hgood hsum hall hlimit
      refine ⟨fun h => dispenseMix_answers ho hm ht (hno h), fun h amount hamount => dispenseMix_answers ho hm ht ?_⟩
      rw [hyes h, dspAccept_atCommand, askedMix_value, ← hamount, askedMix_slots, askedMix_detail]
  · intro cas slots hs
    exact ⟨mixOrder_perm cas slots, (mixOrder_pairwise cas hs).imp fun h => (mixBefore_iff cas _ _).1 h⟩
  · intro limit held mix hlimit hheld hmix
    exact buildList_listOf hlimit hheld hmix

end Machine

end Sys2Proof
end

section
/-!
PROOF. The search of the note mix (R14, R15): the vector it finds meets the conditions and is the largest that does, and where it
finds none there is none.
-/

namespace Sys2Proof.Machine

open Sys2Proof

/-- The conditions of R14 on a vector of counts, for cassettes given by denomination and count estimate. -/
def Fits (l : List (Nat × Nat)) (amount allowance : Nat) (v : List Nat) : Prop :=
  v.length = l.length ∧ (∀ p ∈ List.zip l v, p.2 ≤ p.1.2) ∧ v.sum ≤ allowance
    ∧ ((List.zip l v).map (fun p => p.2 * p.1.1)).sum = amount

theorem fits_nil {amount allowance : Nat} {v : List Nat} : Fits [] amount allowance v ↔ v = [] ∧ amount = 0 := by
  cases v <;> simp [Fits, eq_comm]

/-- A vector meets the conditions where its first count does and the rest meets them for what that count leaves. -/
theorem fits_cons {d c amount allowance n : Nat} {l : List (Nat × Nat)} {v : List Nat} :
    Fits ((d, c) :: l) amount allowance (n :: v)
      ↔ (n ≤ c ∧ n ≤ allowance ∧ n * d ≤ amount) ∧ Fits l (amount - n * d) (allowance - n) v := by
  simp only [Fits, List.length_cons, List.zip_cons_cons, List.forall_mem_cons, List.sum_cons, List.map_cons]
  constructor
  · rintro ⟨hl, ⟨hn, hv⟩, hs, ha⟩
    exact ⟨⟨hn, by omega, by omega⟩, by omega, hv, by omega, by omega⟩
  · rintro ⟨⟨hn, hw, ha⟩, hl, hv, hs, hr⟩
    exact ⟨by omega, ⟨hn, hv⟩, by omega, by omega⟩

/-- A vector for at least one cassette is a first count and a rest. -/
theorem Fits.exists_cons {p : Nat × Nat} {l : List (Nat × Nat)} {amount allowance : Nat} {v : List Nat}
    (h : Fits (p :: l) amount allowance v) : ∃ n w, v = n :: w := by
  cases v with
  | nil => cases h.1
  | cons n w => exact ⟨n, w, rfl⟩

/-! ### The search (R15) -/

theorem firstDown_some {α : Type} {f : Nat → Option α} {top : Nat} {r : α} (h : firstDown f top = some r) :
    ∃ n, n ≤ top ∧ f n = some r ∧ ∀ m, n < m → m ≤ top → f m = none := by
  induction top with
  | zero => exact ⟨0, Nat.le_refl _, h, by omega⟩
  | succ top ih =>
    unfold firstDown at h
    split at h
    next r' hr => exact ⟨top + 1, Nat.le_refl _, by rw [hr, ← h], by omega⟩
    next hr =>
      obtain ⟨n, hn, hf, hm⟩ := ih h
      refine ⟨n, by omega, hf, fun m h1 h2 => ?_⟩
      rcases Nat.lt_or_eq_of_le h2 with h2 | rfl
      · exact hm m h1 (by omega)
      · exact hr

theorem firstDown_none {α : Type} {f : Nat → Option α} {top : Nat} (h : firstDown f top = none) :
    ∀ n, n ≤ top → f n = none := by
  induction top with
  | zero => intro n hn; rwa [Nat.le_zero.1 hn]
  | succ top ih =>
    unfold firstDown at h
    split at h
    next => cases h
    next hr =>
      intro n hn
      rcases Nat.lt_or_eq_of_le hn with hn | rfl
      · exact ih h n (by omega)
      · exact hr

/-- The highest count tried is the highest that a vector may begin with. -/
theorem le_top_iff {d c amount allowance n : Nat} (hd : 1 ≤ d) :
    n ≤ min c (min allowance (amount / d)) ↔ n ≤ c ∧ n ≤ allowance ∧ n * d ≤ amount := by
  rw [Nat.le_min, Nat.le_min, Nat.le_div_iff_mul_le hd]

theorem mixSearch_none {l : List (Nat × Nat)} (hl : ∀ p ∈ l, 1 ≤ p.1) {amount allowance : Nat}
    (h : mixSearch l amount allowance = none) (v : List Nat) : ¬ Fits l amount allowance v := by
  induction l generalizing amount allowance v with
  | nil =>
    rw [fits_nil]
    rintro ⟨-, rfl⟩
    cases h
  | cons p l ih =>
    obtain ⟨d, c⟩ := p
    obtain ⟨hd, hl⟩ := List.forall_mem_cons.1 hl
    intro hv
    obtain ⟨n, w, rfl⟩ := hv.exists_cons
    obtain ⟨hn, hw⟩ := fits_cons.1 hv
    have hnone := firstDown_none h n ((le_top_iff hd).2 hn)
    exact ih hl (Option.map_eq_none_iff.1 hnone) w hw

theorem mixSearch_some {l : List (Nat × Nat)} (hl : ∀ p ∈ l, 1 ≤ p.1) {amount allowance : Nat} {v : List Nat}
    (h : mixSearch l amount allowance = some v) :
    Fits l amount allowance v ∧ ∀ w, Fits l amount allowance w → w = v ∨ List.Lex (· < ·) w v := by
  induction l generalizing amount allowance v with
  | nil =>
    unfold mixSearch at h
    split at h
    next ha =>
      obtain rfl := Option.some.inj h
      exact ⟨fits_nil.2 ⟨rfl, ha⟩, fun w hw => .inl (fits_nil.1 hw).1⟩
    next => cases h
  | cons p l ih =>
    obtain ⟨d, c⟩ := p
    obtain ⟨hd, hl⟩ := List.forall_mem_cons.1 hl
    obtain ⟨n, hn, hf, hmax⟩ := firstDown_some h
    obtain ⟨u, hu, rfl⟩ := Option.map_eq_some_iff.1 hf
    obtain ⟨hfit, hbest⟩ := ih hl hu
    refine ⟨fits_cons.2 ⟨(le_top_iff hd).1 hn, hfit⟩, fun w hw => ?_⟩
    obtain ⟨m, x, rfl⟩ := hw.exists_cons
    obtain ⟨hm, hx⟩ := fits_cons.1 hw
    rcases Nat.lt_trichotomy m n with hlt | rfl | hgt
    · exact .inr (.rel hlt)
    · rcases hbest x hx with rfl | hlex
      · exact .inl rfl
      · exact .inr (.cons hlex)
    · have hnone := hmax m hgt ((le_top_iff hd).2 hm)
      exact absurd hx (mixSearch_none hl (Option.map_eq_none_iff.1 hnone) x)

/-! ### The mix of the records (R12 to R16) -/

/-- The cassettes of the mix order as the search reads them. -/
def searchList (cas : Four Cassette) (order : List Slot) : List (Nat × Nat) :=
  order.map (fun k => ((cas.get k).denomination, (cas.get k).count))

theorem findMix_eq (cas : Four Cassette) (amount allowance : Nat) :
    findMix cas amount allowance = (mixSearch (searchList cas (mixOrder cas (eligibleSlots cas))) amount allowance).map
      (fun v => List.zip (mixOrder cas (eligibleSlots cas)) v) := rfl

theorem fits_searchList (cas : Four Cassette) (order : List Slot) (amount allowance : Nat) (v : List Nat) :
    Fits (searchList cas order) amount allowance v ↔ v.length = order.length
      ∧ (∀ p ∈ List.zip order v, p.2 ≤ (cas.get p.1).count) ∧ v.sum ≤ allowance
      ∧ ((List.zip order v).map (fun p => p.2 * (cas.get p.1).denomination)).sum = amount := by
  simp only [Fits, searchList, List.length_map, List.zip_map_left, List.forall_mem_map, List.map_map]
  rfl

/-- Every cassette of the mix has a denomination, since its record is sound and eligible. -/
theorem searchList_denominations {cas : Four Cassette} (hs : ∀ k, (cas.get k).Sound) :
    ∀ p ∈ searchList cas (mixOrder cas (eligibleSlots cas)), 1 ≤ p.1 := by
  intro p hp
  obtain ⟨k, hk, rfl⟩ := List.mem_map.1 hp
  have he : (cas.get k).state.eligible = true := by
    simpa [eligibleSlots] using (mixOrder_perm cas _).mem_iff.1 hk
  refine Nat.one_le_iff_ne_zero.2 fun hd => ?_
  rw [(hs k).unused_iff.2 hd] at he
  cases he

/-- A vector without a note has no value. -/
theorem zip_value_zero {α : Type} (g : α → Nat) (l : List α) {v : List Nat} (h : v.sum = 0) :
    ((List.zip l v).map (fun p => p.2 * g p.1)).sum = 0 := by
  rw [List.sum_eq_zero_iff_forall_eq_nat] at *
  intro x hx
  obtain ⟨p, hp, rfl⟩ := List.mem_map.1 hx
  rw [h p.2 (List.of_mem_zip hp).2, Nat.zero_mul]

/-- Settles O50: the depth-first search meets R14's conditions and passes over no larger vector. -/
theorem mixIsTheLargest : Obligations.MixIsTheLargest := by
  unfold Obligations.MixIsTheLargest
  intro cas amount allowance order hs horder good hgood
  have hfits : ∀ v, good v ↔ Fits (searchList cas order) amount allowance v := by
    intro v
    rw [fits_searchList, hgood]
  have hden := searchList_denominations hs
  have hmix := findMix_eq cas amount allowance
  rw [← horder] at hden hmix
  have hnone : findMix cas amount allowance = none ↔ ∀ v, ¬ good v := by
    rw [hmix, Option.map_eq_none_iff]
    refine ⟨fun h v => (not_congr (hfits v)).2 (mixSearch_none hden h v), fun h => ?_⟩
    cases hv : mixSearch (searchList cas order) amount allowance with
    | none => rfl
    | some v => exact absurd ((hfits v).2 (mixSearch_some hden hv).1) (h v)
  refine ⟨fun mix h => ?_, hnone, fun s hcas hallow h1 h2 h => ?_⟩
  · rw [hmix] at h
    obtain ⟨v, hv, rfl⟩ := Option.map_eq_some_iff.1 h
    obtain ⟨hfit, hbest⟩ := mixSearch_some hden hv
    refine ⟨v, rfl, (hfits v).2 hfit, fun w hw => hbest w ((hfits w).1 hw), fun h1 => ?_⟩
    refine Nat.pos_of_ne_zero fun hv0 => ?_
    have hvalue := ((fits_searchList cas order amount allowance v).1 hfit).2.2.2
    rw [zip_value_zero (fun k => (cas.get k).denomination) order hv0] at hvalue
    omega
  · rw [dspDispense, if_neg (by simp only [Config.maxAmount]; omega), hcas, ← hallow, hnone.2 h]
    rfl

end Sys2Proof.Machine
end

section
/-!
PROOF. The power reset: the values it gives every block, and that they meet every invariant.
-/

namespace Sys2Proof.Machine

open Sys2Proof

@[simp] theorem peerAt_reset (n : Nat) : peerAt Pt.reset.peers n = Peer.reset := by
  unfold peerAt Pt.reset
  split <;> simp

/-- Settles O4: each value is the one R18, R42, R45, R88, R108, R125, R142, R156, R171, R174, R181 or R182 gives its block. -/
theorem powerResetValues : Obligations.PowerResetValues := by
  unfold Obligations.PowerResetValues
  intro station slow s
  refine ⟨_, rfl, rfl, rfl, ?lane, fun k => ?cassettes, ?transport, ?dispense, ?drawer, ?intake, ?pocket, fun n _ => ?peers,
    ?table, fun k => ?loops, ?alarms, ?outbox⟩
  case lane => simp [State.powerOn, Lsv.reset, Biu.reset, Cmd.reset]
  case cassettes => simp [State.powerOn, Cassette.reset]
  case transport => simp [State.powerOn, Ntg.reset]
  case dispense => simp [State.powerOn, Dsp.reset]
  case drawer => simp [State.powerOn, Drw.reset]
  case intake => simp [State.powerOn, Ink.reset, IntakeRec.fresh]
  case pocket => simp [State.powerOn, Pkt.reset]
  case peers => simp [State.powerOn, Peer.reset]
  case table => simp [State.powerOn, Pt.reset]
  case loops => simp [State.powerOn, Alm.reset]
  case alarms => simp [State.powerOn, Alm.reset]
  case outbox => simp [State.powerOn, Biu.reset]

section

variable (station : Station) (slow : Bool)

theorem powerOn_pocketSound : PocketSound (State.powerOn station slow) := by
  constructor <;> simp [State.powerOn, Pkt.reset, Ink.reset, pocketForm, isSequence, InkState.taking]

/-- No set is announced after a reset, so the wall set is empty. -/
theorem powerOn_formedWall : (State.powerOn station slow).formedWall = AlarmSet.empty := by
  have h : ∀ l : List Nat, l.foldl (fun acc n => acc.union
      (if n = station.toNat then AlarmSet.empty else (peerAt Pt.reset.peers n).announced)) AlarmSet.empty = AlarmSet.empty := by
    intro l
    induction l with
    | nil => rfl
    | cons n l ih =>
      rw [List.foldl_cons, peerAt_reset, show Peer.reset.announced = AlarmSet.empty from rfl, ite_self]
      exact ih
  exact h _

theorem powerOn_alarmSound : AlarmSound (State.powerOn station slow) where
  wall := (powerOn_formedWall station slow).symm
  relay := rfl
  timer := rfl
  toggle := rfl
  pulse := fun h => h
  window := rfl

theorem powerOn_outboxSound : OutboxSound (State.powerOn station slow) := by
  constructor <;> simp [State.powerOn, Biu.reset]

theorem powerOn_chuteSound : ChuteSound (State.powerOn station slow) where
  pocket := powerOn_pocketSound station slow
  holders := by simp [State.holderCount, State.powerOn, Pt.reset, Peer.reset]
  own := by simp [State.ownHolder, State.powerOn, Peer.reset, Pkt.reset]
  claims := rfl
  releases := rfl
  launched := by simp [State.oldestLaunched, State.powerOn, Pkt.reset]
  gate := by simp [State.powerOn, Pkt.reset]
  stale := by simp [State.powerOn, Peer.reset]
  queued := fun w h => by cases h

theorem powerOn_exposureSound : ExposureSound (State.powerOn station slow) where
  entry := by simp [State.ownExposure, State.reserved, State.powerOn, Peer.reset, Dsp.reset]
  running := fun h => by cases h
  resting := fun _ => rfl
  mark := fun h => by cases h
  reserve := fun h => by cases h
  quiet := fun h => by cases h
  ended := fun _ => .inl rfl
  sending := fun a h => by cases h
  queued := fun w h => by cases h
  held := fun h => absurd rfl h
  lane := fun h => absurd rfl h
  unset := fun _ => rfl

end

/-- Settles O57: one lemma for each invariant. -/
theorem resetMeetsTheInvariants : Obligations.ResetMeetsTheInvariants := by
  unfold Obligations.ResetMeetsTheInvariants
  rintro station slow s rfl
  exact ⟨CassettesSound.powerOn station slow, powerOn_pocketSound station slow, powerOn_alarmSound station slow,
    powerOn_outboxSound station slow, powerOn_chuteSound station slow, powerOn_exposureSound station slow⟩

end Sys2Proof.Machine
end

section
/-!
PROOF. The records' reports with their events, and CASSETTE_LOAD and BIN_SET in SERVICE.
-/

namespace Sys2Proof

theorem Slot.ofNumber_number (k : Slot) : Slot.ofNumber k.number = some k := by cases k <;> rfl

theorem Slot.ofNumber_out {n : Nat} (h : n = 0 ∨ 4 < n) : Slot.ofNumber n = none := by
  unfold Slot.ofNumber
  split <;> first | rfl | omega

namespace Machine

/-! ### Reports (R8) -/

/-- A rule that names a cause changes its record and queues the event of that cause. -/
theorem casApply_event {k : Slot} {f : Cassette → Cassette × Option CasCause} {s : State} {c : Cassette} {cause : CasCause}
    (h : f (s.cas.get k) = (c, some cause)) :
    casApply k f s = queueEvent 52 (be1 k.number ++ be1 c.state.code ++ be2 c.count ++ be1 cause.code)
      { s with cas := s.cas.set k c } := by
  simp [casApply, h, cassetteEvent, kindCassetteEvent]

/-- A rule that names none changes its record alone. -/
theorem casApply_silent {k : Slot} {f : Cassette → Cassette × Option CasCause} {s : State} {c : Cassette}
    (h : f (s.cas.get k) = (c, none)) : casApply k f s = { s with cas := s.cas.set k c } := by
  simp [casApply, h]

/-! ### Clamped counts and the owner check (R9, R68, R174) -/

theorem clampTo_zero (hi v : Nat) : clampTo 0 hi v = min hi v := by
  unfold clampTo
  rw [if_neg (Nat.not_lt_zero v)]
  split <;> omega

theorem ownerFails_iff (s : State) (source : Station) : ownerFails source s = true ↔ ¬ OwnerPasses s source := by
  cases h : s.cmd.owner <;> simp [ownerFails, OwnerPasses, h]

theorem ownerFails_not {s : State} {source : Station} (h : OwnerPasses s source) : ¬ ownerFails source s = true :=
  fun hf => (ownerFails_iff s source).1 hf h

theorem field_one_byte (tag n : Byte) (rest : List Byte) : field (tag :: n :: rest) 1 1 = n.toNat := by
  simp [field, beNat]

/-! ### CASSETTE_LOAD (R9) -/

theorem loadCassette_eq (k : Slot) (count : Nat) (s : State) {c : Nat} {r : Cassette} (hc : c = min 3000 count)
    (hr : r = casJudge { s.cas.get k with count := c, loaded := c, mispicks := 0 }) :
    loadCassette k count s
      = (queueEvent 52 (be1 k.number ++ be1 r.state.code ++ be2 c ++ be1 5) { s with cas := s.cas.set k r },
         some (if count ≤ 3000 then .ok else .clamped, be1 k.number ++ be2 c ++ be1 r.state.code)) := by
  have hclamp : clampTo 0 Config.maxCount count = c := (clampTo_zero _ _).trans hc.symm
  have hcode : (c = count) = (count ≤ 3000) := propext ⟨by omega, by omega⟩
  have hload : casApply k (fun x => (casLoad c x, some .loaded)) s = queueEvent 52
      (be1 k.number ++ be1 r.state.code ++ be2 r.count ++ be1 5) { s with cas := s.cas.set k r } :=
    casApply_event (cause := .loaded) (by rw [hr]; rfl)
  have hcount : r.count = c := by rw [hr]; rfl
  unfold loadCassette
  simp only [hclamp, hload, hcode, hcount, (queueEvent_keeps _ _ _).1, Four.get_set_same]

section

variable {s : State} {source : Station} {slot : Nat} (count : Nat)

theorem serveLoad_notOwner (h : ¬ OwnerPasses s source) : serveLoad source slot count s = (s, plain .notOwner) :=
  if_pos ((ownerFails_iff s source).2 h)

theorem serveLoad_badState (h : OwnerPasses s source) (hl : s.lsv.lane ≠ .service) :
    serveLoad source slot count s = (s, plain .badState) := by
  rw [serveLoad, if_neg (ownerFails_not h), if_pos hl]
  rfl

theorem serveLoad_badSlot (h : OwnerPasses s source) (hl : s.lsv.lane = .service)
    (hk : ∀ k, Slot.ofNumber slot = some k → (s.cas.get k).state = .unused ∨ (s.cas.get k).state = .absent) :
    serveLoad source slot count s = (s, plain .badParam) := by
  rw [serveLoad, if_neg (ownerFails_not h), if_neg (fun hn => hn hl)]
  split
  next => rfl
  next k hslot => exact if_pos (hk k hslot)

theorem serveLoad_seated (h : OwnerPasses s source) (hl : s.lsv.lane = .service) {k : Slot} (hk : Slot.ofNumber slot = some k)
    (hu : (s.cas.get k).state ≠ .unused) (ha : (s.cas.get k).state ≠ .absent) :
    serveLoad source slot count s = loadCassette k count s := by
  rw [serveLoad, if_neg (ownerFails_not h), if_neg (fun hn => hn hl), hk]
  exact if_neg (not_or.2 ⟨hu, ha⟩)

end

/-! ### BIN_SET (R68) -/

/-- BIN_SET's service: the owner check, SERVICE, then the counts. -/
def serveBins (source : Station) (reject retract : Nat) (s : State) : State × Reply :=
  checked [(ownerFails source s, .notOwner), (s.lsv.lane ≠ .service, .badState)] (setBins reject retract) s

theorem execBinSet_eq (source : Station) (payload : List Byte) (s : State) :
    execBinSet source payload s
      = act (onCommand 29 source payload (fun p => serveBins source (field p 1 2) (field p 3 2))) s := rfl

section

variable {s : State} {source : Station} (reject retract : Nat)

theorem serveBins_notOwner (h : ¬ OwnerPasses s source) : serveBins source reject retract s = (s, plain .notOwner) :=
  checked_refused s (by rw [firstFailing_cons, if_pos ((ownerFails_iff s source).2 h)]) _

theorem serveBins_badState (h : OwnerPasses s source) (hl : s.lsv.lane ≠ .service) :
    serveBins source reject retract s = (s, plain .badState) :=
  checked_refused s (by simp [ownerFails_iff, h, hl]) _

theorem serveBins_service (h : OwnerPasses s source) (hl : s.lsv.lane = .service) :
    serveBins source reject retract s = setBins reject retract s :=
  checked_passed s (by simp [ownerFails_iff, h, hl]) _

end

/-- Settles O25: both services refuse in their order, and else store the clamped counts. -/
theorem serviceCounts : Obligations.ServiceCounts := by
  unfold Obligations.ServiceCounts
  intro s source tag
  have howner : OwnerPasses (atCommand s source) source ↔ OwnerPasses s source := by
    rw [OwnerPasses, OwnerPasses, atCommand_owner]
  have hlane := atCommand_lsv s source
  have hcas := atCommand_cas s source
  have hload : ∀ {n x y : Byte} {u : State} {code : Code} {detail : List Byte}, Taken s source 28 [tag, n, x, y] →
      serveLoad source n.toNat (beNat [x, y]) (atCommand s source) = (u, some (code, detail)) →
      exec (.cassetteLoad source [tag, n, x, y]) s = .next (replied source tag 28 code detail u) :=
    fun ht h => command_answers ht rfl (by rw [field_one_byte]; exact h)
  have hbins : ∀ {a b c d : Byte} {u : State} {code : Code} {detail : List Byte}, Taken s source 29 [tag, a, b, c, d] →
      serveBins source (beNat [a, b]) (beNat [c, d]) (atCommand s source) = (u, some (code, detail)) →
      exec (.binSet source [tag, a, b, c, d]) s = .next (replied source tag 29 code detail u) :=
    fun ht h => (execBinSet_eq source _ s).trans (command_answers ht rfl h)
  refine ⟨fun n x y ht => ⟨fun h => ?_, fun h hl hn => ?_⟩, fun k n x y ht hk h => ⟨fun hl => ?_, fun hl hgone => ?_,
    fun hl hu ha c r hc hr => ?_⟩, fun a b c d ht => ⟨fun h => ?_, fun h hl => ?_, fun h hl r t hr htt => ?_⟩⟩
  · exact hload ht (serveLoad_notOwner _ (mt howner.1 h))
  · refine hload ht (serveLoad_badSlot _ (howner.2 h) (hlane ▸ hl) fun k hk => ?_)
    rw [Slot.ofNumber_out hn] at hk
    cases hk
  · exact hload ht (serveLoad_badState _ (howner.2 h) (hlane ▸ hl))
  · refine hload ht (serveLoad_badSlot _ (howner.2 h) (hlane ▸ hl) fun j hj => ?_)
    rw [hk, Slot.ofNumber_number] at hj
    rw [← Option.some.inj hj, hcas]
    exact hgone
  · refine hload ht ?_
    rw [serveLoad_seated _ (howner.2 h) (hlane ▸ hl) (hk ▸ Slot.ofNumber_number k) (hcas ▸ hu) (hcas ▸ ha),
      loadCassette_eq k _ _ hc (hcas ▸ hr), hcas]
  · exact hbins ht (serveBins_notOwner _ _ (mt howner.1 h))
  · exact hbins ht (serveBins_badState _ _ (howner.2 h) (hlane ▸ hl))
  · refine hbins ht ?_
    rw [serveBins_service _ _ (howner.2 h) (hlane ▸ hl)]
    simp only [setBins, atCommand_dsp, clampTo_zero, ← hr, ← htt]

end Machine

end Sys2Proof
end

section
/-!
PROOF. The presence lines of the cassettes, and what a slot that is no longer eligible makes of a running dispense.
-/

namespace Sys2Proof.Machine

open Sys2Proof

/-! ### Reports to a dispense (R8, R59) -/

theorem casReport_event {k : Slot} {f : Cassette → Cassette × Option CasCause} {s : State} {c : Cassette} {cause : CasCause}
    (h : f (s.cas.get k) = (c, some cause)) :
    casReport k f s = dspSlotCheck (queueEvent 52 (be1 k.number ++ be1 c.state.code ++ be2 c.count ++ be1 cause.code)
      { s with cas := s.cas.set k c }) := by
  rw [casReport, casApply_event h]

theorem casReport_silent {k : Slot} {f : Cassette → Cassette × Option CasCause} {s : State} {c : Cassette}
    (h : f (s.cas.get k) = (c, none)) : casReport k f s = dspSlotCheck { s with cas := s.cas.set k c } := by
  rw [casReport, casApply_silent h]

/-- A slot check finds nothing to do unless the dispense picks from a slot that is no longer eligible (R59). -/
theorem dspSlotCheck_unchanged {t : State}
    (h : t.dsp.state ≠ .picking ∨ t.dsp.withdrawPending = true ∨ entryIn .active t.dsp.pickList = none
      ∨ (∃ e, entryIn .active t.dsp.pickList = some e ∧ (e.kind ≠ .pick ∨ (t.cas.get e.slot).state.eligible = true))) :
    dspSlotCheck t = t := by
  unfold dspSlotCheck
  split
  next hp =>
    rcases h with h | h | h | ⟨e, he, h⟩
    · exact absurd hp.1 h
    · rw [hp.2] at h
      cases h
    · rw [h]
    · rw [he]
      refine if_neg fun hn => ?_
      rcases h with h | h
      · exact h hn.1
      · rw [hn.2] at h
        cases h
  next => rfl

/-- A dispense that picks from such a slot has its transport withdrawn, and hears at once where that leaves it clear (R59). -/
theorem dspSlotCheck_withdraws {t : State} {e : Entry} (hp : t.dsp.state = .picking) (hw : t.dsp.withdrawPending = false)
    (he : entryIn .active t.dsp.pickList = some e) (hk : e.kind = .pick) (hs : (t.cas.get e.slot).state.eligible = false) :
    dspSlotCheck t = if (ntgWithdraw t.ntg).2
      then dspOnClear { t with ntg := (ntgWithdraw t.ntg).1, dsp.withdrawPending := true }
      else { t with ntg := (ntgWithdraw t.ntg).1, dsp.withdrawPending := true } := by
  rw [dspSlotCheck, if_pos ⟨hp, hw⟩, he]
  exact if_pos ⟨hk, hs⟩

/-! ### The presence lines (R3, R4) -/

theorem cassetteRemoved_acts {s : State} {k : Slot} (h : (s.cas.get k).present = true) :
    exec (.cassetteRemoved k) s = .next (settle (casReport k casRemove (begun s))) := by
  have hb : ((begun s).cas.get k).present = true := h
  simp only [exec, execCassetteRemoved, act_eq, hb, when_true]

theorem cassetteInserted_acts {s : State} {k : Slot} (h : (s.cas.get k).present = false) :
    exec (.cassetteInserted k) s = .next (casReport k casInsert (begun s)) := by
  have hb : ((begun s).cas.get k).present = false := h
  simp only [exec, execCassetteInserted, act_eq, hb, Bool.not_false, when_true]

/-- Settles O30: each line's report by the state of its record, and the slot check by the transport's state. -/
theorem cassetteLines : Obligations.CassetteLines := by
  unfold Obligations.CassetteLines
  rintro s k c rfl
  refine ⟨fun hp => ⟨?_, fun hu => ?_⟩, fun hp => ⟨?_, fun ha => ?_⟩, fun t h => dspSlotCheck_unchanged h, ?_⟩
  · rintro hu gone rfl
    rw [cassetteRemoved_acts hp, casReport_event (cause := .removed) (if_neg hu)]
    rfl
  · rw [cassetteRemoved_acts hp, casReport_silent (if_pos hu)]
    rfl
  · rintro ha seated rfl
    rw [cassetteInserted_acts hp, casReport_event (cause := .inserted) (if_pos ha)]
    rfl
  · rw [cassetteInserted_acts hp, casReport_silent (if_neg ha)]
    rfl
  · rintro t w e hpick hwait he hk hs rfl
    rw [dspSlotCheck_withdraws hpick hwait he hk hs]
    refine ⟨fun h hr => ?_, fun h hr => ?_, fun h => ?_, fun h => ?_⟩
    · simp [ntgWithdraw, h, hr]
    · simp [ntgWithdraw, h, hr]
    · simp [ntgWithdraw, h]
    · rcases h with h | h | h | h <;> simp [ntgWithdraw, h]

end Sys2Proof.Machine
end

section
/-!
PROOF. The edge sensor, a mispick and the note gate, with what each makes of the first record of its stage.
-/

namespace Sys2Proof.Machine

open Sys2Proof

/-! ### The first record of a stage -/

/-- A change of the first record of a stage is what it makes of that one record. -/
theorem changeFirst_congr {st : Stage} {f g : ObjRec → ObjRec} {r : ObjRec} :
    ∀ {l : List ObjRec}, firstOf st l = some r → f r = g r → changeFirst st f l = changeFirst st g l
  | [], h, _ => by cases h
  | x :: rest, h, hfg => by
    simp only [changeFirst]
    split
    next hx =>
      have hxr : x = r := by simpa [firstOf, hx] using h
      rw [hxr, hfg]
    next hx =>
      have hrest : firstOf st rest = some r := by simpa [firstOf, hx] using h
      rw [changeFirst_congr hrest hfg]

@[simp] theorem reached_some (m p : Nat) : reached (some m) p = decide (p ≤ m) := rfl

section

variable (path : PathCount) (n : Ntg)

@[simp] theorem ntgAdvance_c0L : (ntgAdvance path n).c0L = n.c0L := by unfold ntgAdvance; split <;> rfl
@[simp] theorem ntgAdvance_c0R : (ntgAdvance path n).c0R = n.c0R := by unfold ntgAdvance; split <;> rfl

end

/-- What a signal of the path finds: the transport advanced by the pulses since the last one (log 4). -/
theorem advanceTransport_begun (s : State) (path : PathCount) :
    advanceTransport path (begun s) = { begun s with ntg := ntgAdvance path s.ntg } := rfl

/-! ### The leading edge (R23, R27, R28, R39) -/

theorem edgeCovered_acts {s : State} (path : PathCount) (h : s.ntg.edge = false) : exec (.edgeCovered path) s
    = .next (settle (leadingEdge { begun s with ntg := { ntgAdvance path s.ntg with edge := true } })) := by
  have he : (advanceTransport path (begun s)).ntg.edge = false := (ntgAdvance_edge _ path).trans h
  simp only [exec, execEdgeCovered, act_eq, he, Bool.not_false, when_true]
  rfl

section

variable {t : State} {r : ObjRec} {m : Nat}

/-- An object within its window starts the marks of the pick that accounts for it. -/
theorem leadingEdge_accounted (hs : t.ntg.state = .feeding ∨ t.ntg.state = .draining ∨ t.ntg.state = .purge)
    (hr : firstOf .picked t.ntg.records = some r) (hp : r.sincePick = some m) (hm : m < 120) :
    leadingEdge t = { t with ntg.records := changeFirst .picked toGauge t.ntg.records } := by
  have hin : reached r.sincePick Config.mispickPulses = false := by
    rw [hp, reached_some]
    exact decide_eq_false (Nat.not_le.2 hm)
  rcases hs with hs | hs | hs <;> simp [leadingEdge, hs, hr, hin]

theorem leadingEdge_stray
    (hs : t.ntg.state = .baseline
      ∨ (t.ntg.state = .feeding ∨ t.ntg.state = .draining) ∧ firstOf .picked t.ntg.records = none) :
    leadingEdge t = ntgJam .strayObject t := by
  rcases hs with hs | ⟨hs | hs, hr⟩
  · simp [leadingEdge, hs]
  · simp [leadingEdge, hs, hr]
  · simp [leadingEdge, hs, hr]

theorem leadingEdge_purge (hs : t.ntg.state = .purge) (hr : firstOf .picked t.ntg.records = none) :
    leadingEdge t = { t with ntg.records := t.ntg.records ++ [unknownRecord] } := by
  simp [leadingEdge, hs, hr]

end

/-! ### A mispick (R7, R31) -/

theorem endMispick_counted {t : State} {r : ObjRec} {k : Slot} (hr : firstOf .picked t.ntg.records = some r)
    (hk : r.slot = some k) : endMispick t
      = checkDrained (casReport k casMispick { t with ntg.records := removeFirst .picked t.ntg.records }) := by
  rw [endMispick, hr]
  simp only [hk]

theorem mispick_acts {s : State} {path : PathCount} {r : ObjRec} {m : Nat} {k : Slot} (hs : s.ntg.state.motor = true)
    (hr : firstOf .picked (ntgAdvance path s.ntg).records = some r) (hp : r.sincePick = some m) (hm : 120 ≤ m)
    (hk : r.slot = some k) : exec (.mispick path) s
      = .next (settle (checkDrained (casReport k casMispick { begun s with
          ntg := { ntgAdvance path s.ntg with records := removeFirst .picked (ntgAdvance path s.ntg).records } }))) := by
  have hcond : ((advanceTransport path (begun s)).ntg.state.motor
      && (firstOf .picked (advanceTransport path (begun s)).ntg.records).any
          (fun r => reached r.sincePick Config.mispickPulses)) = true := by
    simp [advanceTransport_begun, hs, hr, hp, Config.mispickPulses, hm]
  simp only [exec, execMispick, act_eq, hcond, when_true]
  rw [endMispick_counted hr hk]
  rfl

/-- The third consecutive mispick makes a seated record with notes EMPTY; before it, and for an EMPTY record, it is counted
(R7); a record that is UNUSED or ABSENT is left alone. -/
theorem casReport_mispick (s : State) (k : Slot) (c : Cassette) (hc : c = s.cas.get k) :
    (c.state = .unused ∨ c.state = .absent → casReport k casMispick s = dspSlotCheck s) ∧
    (c.state = .empty → casReport k casMispick s
      = dspSlotCheck { s with cas := s.cas.set k { c with mispicks := min 3 (c.mispicks + 1) } }) ∧
    (c.state = .ok ∨ c.state = .low →
      (c.mispicks < 2 → casReport k casMispick s
        = dspSlotCheck { s with cas := s.cas.set k { c with mispicks := c.mispicks + 1 } }) ∧
      (2 ≤ c.mispicks → casReport k casMispick s
        = dspSlotCheck (queueEvent 52 (be1 k.number ++ be1 4 ++ be2 0 ++ be1 4)
            { s with cas := s.cas.set k { c with mispicks := 3, count := 0, state := .empty } }))) := by
  subst hc
  refine ⟨fun h => ?_, fun h => ?_, fun h => ⟨fun hm => ?_, fun hm => ?_⟩⟩
  · have hf : casMispick (s.cas.get k) = (s.cas.get k, none) := by rcases h with h | h <;> simp [casMispick, h]
    rw [casReport_silent hf, Four.set_get_self]
  · exact casReport_silent (by simp [casMispick, h])
  · have hn : ¬ 3 ≤ (s.cas.get k).mispicks + 1 := by omega
    exact casReport_silent (by rcases h with h | h <;> simp [casMispick, h, hn])
  · have hn : 3 ≤ (s.cas.get k).mispicks + 1 := by omega
    have hf : casMispick (s.cas.get k)
        = ({ s.cas.get k with mispicks := 3, count := 0, state := .empty }, some .mispicks) := by
      rcases h with h | h <;> simp [casMispick, h, hn]
    rw [casReport_event hf]
    rfl

/-! ### The note gate (R29, R30, R32) -/

theorem noteGateClosed_acts {s : State} {path : PathCount} {r : ObjRec} {m : Nat} (cyclesL cyclesR : Nat)
    (he : s.ntg.edge = true) (hs : s.ntg.state.carries = true)
    (hr : firstOf .atGauge (ntgAdvance path s.ntg).records = some r) (hc : r.counts = none) (hl : r.sinceLead = some m)
    (hm : 16 + s.ntg.gateLength ≤ m) : exec (.noteGateClosed path cyclesL cyclesR) s
      = .next { begun s with ntg := { ntgAdvance path s.ntg with
          records := changeFirst .atGauge
            (gateClosed s.cas s.ntg.c0L s.ntg.c0R (gaugeCount cyclesL) (gaugeCount cyclesR))
            (ntgAdvance path s.ntg).records } } := by
  have hcond : ((advanceTransport path (begun s)).ntg.state.carries && (advanceTransport path (begun s)).ntg.edge
      && (firstOf .atGauge (advanceTransport path (begun s)).ntg.records).any (fun r => r.counts.isNone
        && reached r.sinceLead (Config.gateLead + (advanceTransport path (begun s)).ntg.gateLength))) = true := by
    simp [advanceTransport_begun, hs, he, hr, hc, hl, Config.gateLead, hm]
  simp only [exec, execNoteGateClosed, act_eq, hcond, when_true]
  simp [advanceTransport_begun]

/-! ### The end of draining (R40) -/

theorem checkDrained_drained {s : State} (hs : s.ntg.state = .draining) (hr : s.ntg.records = []) :
    checkDrained s = dspOnClear { s with ntg.state := .idle, ntg.order := none } := by
  simp [checkDrained, ntgDrained, hs, hr]

theorem checkDrained_unchanged {s : State} (h : s.ntg.state ≠ .draining ∨ s.ntg.records ≠ []) : checkDrained s = s := by
  have hn : ¬ (s.ntg.state = .draining ∧ s.ntg.records = []) := by
    rintro ⟨hs, hr⟩
    exact h.elim (· hs) (· hr)
  simp [checkDrained, ntgDrained, hn]

/-- Settles O33: each signal's own lemma, read at the advanced transport. -/
theorem edgeMispickAndGate : Obligations.EdgeMispickAndGate := by
  unfold Obligations.EdgeMispickAndGate
  refine ⟨?_, casReport_mispick, fun s => ⟨checkDrained_drained, checkDrained_unchanged⟩⟩
  rintro s path n rfl
  have hstate := ntgAdvance_state s.ntg path
  refine ⟨fun he hs => ⟨fun r m hr hp hm => ?_, fun hr => ⟨fun hnp => ?_, fun hp => ?_⟩⟩, fun he hs => ?_, ?_, ?_⟩
  · rw [edgeCovered_acts path he, leadingEdge_accounted (by simpa [hstate] using hs) hr hp hm]
    rfl
  · rw [edgeCovered_acts path he, leadingEdge_stray (.inr ⟨by simpa [hstate, hnp] using hs, hr⟩)]
  · rw [edgeCovered_acts path he, leadingEdge_purge (hstate.trans hp) hr]
    rfl
  · rw [edgeCovered_acts path he, leadingEdge_stray (.inl (hstate.trans hs))]
  · intro r m k hs hr hp hm hk
    exact mispick_acts (by rcases hs with hs | hs | hs <;> rw [hs] <;> rfl) hr hp hm hk
  · rintro r m k cyclesL cyclesR he hs hr hc hl hm hk l t rfl rfl close rfl
    rw [noteGateClosed_acts cyclesL cyclesR he (by rcases hs with hs | hs <;> rw [hs] <;> rfl) hr hc hl hm,
      changeFirst_congr hr]
    simp [gateClosed, hk, gaugeCount]

end Sys2Proof.Machine
end

section
/-!
PROOF. The trailing edge: what it measures, what an ACCEPT teaches and what a delivery does to the record.
-/

namespace Sys2Proof.Machine

open Sys2Proof

/-! ### The trailing edge (R33, R34, R40) -/

theorem trailingEdge_acts {s : State} (path : PathCount) (h : s.ntg.edge = true) : exec (.trailingEdge path) s
    = .next (settle (trailing { begun s with ntg := { ntgAdvance path s.ntg with edge := false } })) := by
  have he : (advanceTransport path (begun s)).ntg.edge = true := (ntgAdvance_edge _ path).trans h
  simp only [exec, execTrailingEdge, act_eq, he, when_true]
  rfl

theorem trailing_note {t : State} {r : ObjRec} (hs : t.ntg.state = .feeding ∨ t.ntg.state = .draining)
    (hr : firstOf .atGauge t.ntg.records = some r) : trailing t = trailNote r t := by
  rw [trailing, hr]
  exact if_pos (by rcases hs with hs | hs <;> rw [hs] <;> rfl)

theorem trailing_purge {t : State} {r : ObjRec} (hs : t.ntg.state = .purge)
    (hr : firstOf .atGauge t.ntg.records = some r) : trailing t = trailPurge r t := by
  simp [trailing, hr, hs, NtgState.carries]

/-- A learned reference is an eighth of the way to the index, within 8 to 8,184 (R34). -/
theorem learnFrom_eq (k : Slot) (tL tR : Nat) (s : State) : learnFrom k tL tR s
    = { s with cas := s.cas.set k { s.cas.get k with
          ref8L := clampTo 8 8184 ((s.cas.get k).ref8L + tL - (s.cas.get k).ref8L / 8),
          ref8R := clampTo 8 8184 ((s.cas.get k).ref8R + tR - (s.cas.get k).ref8R / 8) } } := by
  rw [learnFrom, Four.modify_eq_set]
  rfl

section

variable {t : State} {r m : ObjRec} {k : Slot} {estimate : Nat} (hm : m = measured t.cas t.ntg.gateLength r)
  (hk : m.slot = some k) (he : m.estimate = some estimate)
include hm hk he

theorem trailNote_accept {tL tR : Nat} (ho : m.outcome = some .accept) (hi : m.indices = some (tL, tR)) :
    trailNote r t = learnFrom k tL tR (casReport k (casDeliver estimate)
      { t with ntg.records := changeFirst .atGauge (fun _ => m) t.ntg.records, ntg.last := some (lastOf m) }) := by
  simp only [trailNote, ← hm, hk, he, ho, hi]
  rfl

theorem trailNote_reject (ho : m.outcome = some .reject) :
    trailNote r t = casReport k (casDeliver estimate)
      { t with ntg.records := changeFirst .atGauge (fun _ => m) t.ntg.records, ntg.last := some (lastOf m) } := by
  simp only [trailNote, ← hm, hk, he, ho]
  rfl

end

section

variable {t : State} {r : ObjRec}

theorem trailPurge_unreported {k : Slot} (hk : r.slot = some k) (he : r.estimate = none) :
    trailPurge r t = casReport k (casDeliver 1)
      { t with ntg.records := changeFirst .atGauge (purgedEdge t.cas) t.ntg.records } := by
  simp only [trailPurge, hk, he]

theorem trailPurge_reported (h : r.slot = none ∨ r.estimate ≠ none) :
    trailPurge r t = { t with ntg.records := changeFirst .atGauge (purgedEdge t.cas) t.ntg.records } := by
  unfold trailPurge
  split
  next hk he => exact absurd he (h.resolve_left (by rw [hk]; exact Option.some_ne_none _))
  next => rfl

end

/-! ### A delivery (R6) -/

/-- A delivery ends the consecutive mispicks and takes its estimate from the count, and reports the state it leads to. -/
theorem casReport_deliver (s : State) (k : Slot) (c after : Cassette) (estimate : Nat) (hc : c = s.cas.get k)
    (ha : after = { c with count := c.count - estimate, mispicks := 0 }) :
    (c.state = .unused ∨ c.state = .absent → casReport k (casDeliver estimate) s = dspSlotCheck s) ∧
    (c.state = .empty → casReport k (casDeliver estimate) s
      = dspSlotCheck { s with cas := s.cas.set k { c with count := 0, mispicks := 0 } }) ∧
    (c.state = .ok ∨ c.state = .low → c.denomination ≠ 0 → c.present = true →
      (c.count ≤ estimate → casReport k (casDeliver estimate) s
        = dspSlotCheck (queueEvent 52 (be1 k.number ++ be1 4 ++ be2 0 ++ be1 3)
            { s with cas := s.cas.set k { after with state := .empty } })) ∧
      (estimate < c.count → c.count - estimate ≤ c.lowMark →
        (c.state = .ok → casReport k (casDeliver estimate) s
          = dspSlotCheck (queueEvent 52 (be1 k.number ++ be1 3 ++ be2 (c.count - estimate) ++ be1 2)
              { s with cas := s.cas.set k { after with state := .low } })) ∧
        (c.state = .low → casReport k (casDeliver estimate) s
          = dspSlotCheck { s with cas := s.cas.set k { after with state := .low } })) ∧
      (estimate < c.count → c.lowMark < c.count - estimate → casReport k (casDeliver estimate) s
        = dspSlotCheck { s with cas := s.cas.set k { after with state := .ok } })) := by
  subst ha
  subst hc
  refine ⟨fun h => ?_, fun h => casReport_silent (by simp [casDeliver, h]),
    fun h hd hp => ⟨fun he => ?_, fun he hl => ⟨fun hs => ?_, fun hs => ?_⟩, fun he hl => ?_⟩⟩
  · have hf : casDeliver estimate (s.cas.get k) = (s.cas.get k, none) := by rcases h with h | h <;> simp [casDeliver, h]
    rw [casReport_silent hf, Four.set_get_self]
  · have hz : (s.cas.get k).count - estimate = 0 := by omega
    have hf : casDeliver estimate (s.cas.get k)
        = ({ s.cas.get k with count := 0, mispicks := 0, state := .empty }, some .emptied) := by
      rcases h with h | h <;> simp [casDeliver, h, casJudge, casState, hd, hp, hz]
    rw [casReport_event hf, hz]
    rfl
  · have hz : (s.cas.get k).count - estimate ≠ 0 := by omega
    exact casReport_event (cause := .lowMark) (by simp [casDeliver, hs, casJudge, casState, hd, hp, hz, hl])
  · have hz : (s.cas.get k).count - estimate ≠ 0 := by omega
    exact casReport_silent (by simp [casDeliver, hs, casJudge, casState, hd, hp, hz, hl])
  · have hz : (s.cas.get k).count - estimate ≠ 0 := by omega
    have hn : ¬ (s.cas.get k).count - estimate ≤ (s.cas.get k).lowMark := by omega
    exact casReport_silent
      (by rcases h with h | h <;> simp [casDeliver, h, casJudge, casState, hd, hp, hz, hn])

/-! ### What a measurement makes of a record (R33, R35) -/

theorem lengthClass_eq {length nominal : Nat} {l : LengthClass} (hs : length + 12 < nominal → l = .short)
    (hc : nominal + 12 < length → l = .chained) (ho : nominal ≤ length + 12 → length ≤ nominal + 12 → l = .ok) :
    lengthClass length nominal = l := by
  unfold lengthClass
  split
  next h => exact (hs (by omega)).symm
  next h =>
    split
    next h' => exact (hc h').symm
    next h' => exact (ho (by omega) (by omega)).symm

theorem accepts_iff (g : Option GaugeClass) (l : LengthClass) : accepts g l = true ↔ g = some .single ∧ l = .ok := by
  simp [accepts]

/-- Outcome, route, reason and estimate of a measurement follow from its gauge class and its length class. -/
def Judged (g : Option GaugeClass) (l : LengthClass) (m : ObjRec) : Prop :=
  m.outcome = some (if accepts g l then .accept else .reject) ∧ m.route = some (if accepts g l then .stacker else .reject)
  ∧ m.reason = (if accepts g l then none else rejectReason g l)
  ∧ m.estimate = some (max (gaugeEstimate g) (lengthEstimate l))

section

variable {cas : Four Cassette} {gateLength length : Nat} {k : Slot} {r : ObjRec} {l : LengthClass}
  (hk : r.slot = some k) (hr : r.sinceLead = some length) (hl : lengthClass length (cas.get k).nominal = l)

include hr in
/-- An object no longer than the gate leaves no gauge class, counts or indices; a longer one keeps those of the gate. -/
theorem measured_gauge :
    (length ≤ 16 + gateLength → (measured cas gateLength r).gauge = none ∧ (measured cas gateLength r).counts = none
      ∧ (measured cas gateLength r).indices = none)
    ∧ (16 + gateLength < length → (measured cas gateLength r).gauge = r.gauge
      ∧ (measured cas gateLength r).counts = r.counts ∧ (measured cas gateLength r).indices = r.indices) := by
  refine ⟨fun h => ?_, fun h => ?_⟩
  · simp [measured, hr, Config.gateLead, h]
  · simp [measured, hr, Config.gateLead, Nat.not_le.2 h]

include hk hr hl

theorem measured_lengthClass : (measured cas gateLength r).lengthClass = some l := by
  simp [measured, hr, hk, nominalOf, hl]

theorem measured_judged : Judged (measured cas gateLength r).gauge l (measured cas gateLength r) := by
  simp [Judged, measured, hr, hk, nominalOf, hl]

end

section

variable {g : Option GaugeClass} {l : LengthClass} {m : ObjRec} (h : Judged g l m)
include h

theorem Judged.accept (hg : g = some .single) (hl : l = .ok) :
    m.outcome = some .accept ∧ m.route = some .stacker ∧ m.reason = none := by
  obtain ⟨ho, hroute, hreason, -⟩ := h
  have ha := (accepts_iff g l).2 ⟨hg, hl⟩
  exact ⟨by rw [ho, if_pos ha], by rw [hroute, if_pos ha], by rw [hreason, if_pos ha]⟩

theorem Judged.reject (hn : g ≠ some .single ∨ l ≠ .ok) :
    m.outcome = some .reject ∧ m.route = some .reject ∧ m.reason = rejectReason g l := by
  obtain ⟨ho, hroute, hreason, -⟩ := h
  have ha : ¬ accepts g l = true := fun ha => hn.elim (· ((accepts_iff g l).1 ha).1) (· ((accepts_iff g l).1 ha).2)
  exact ⟨by rw [ho, if_neg ha], by rw [hroute, if_neg ha], by rw [hreason, if_neg ha]⟩

/-- Every reject reason but a length class's is the gauge class's. -/
theorem Judged.reason_of_gauge : (g = some .thin → m.reason = some .thin) ∧ (g = some .folded → m.reason = some .folded)
    ∧ (g = some .double → m.reason = some .double) ∧ (g = some .multiple → m.reason = some .multiple) := by
  refine ⟨?_, ?_, ?_, ?_⟩ <;> (rintro rfl; exact (h.reject (.inl (by decide))).2.2)

theorem Judged.reason_of_length (hg : g = none ∨ g = some .single) :
    (l = .short → m.reason = some .short) ∧ (l = .chained → m.reason = some .chained) := by
  refine ⟨?_, ?_⟩ <;> (rintro rfl; rw [(h.reject (.inr (by decide))).2.2]; rcases hg with rfl | rfl <;> rfl)

/-- The estimate is the larger of what the two classes say (R35). -/
theorem Judged.estimates : (g = some .multiple → m.estimate = some 3)
    ∧ (g ≠ some .multiple → (g = some .double ∨ l = .chained → m.estimate = some 2)
      ∧ (g ≠ some .double → l ≠ .chained → m.estimate = some 1)) := by
  rw [h.2.2.2]
  match g, l with
  | none, l | some .single, l | some .thin, l | some .folded, l | some .double, l | some .multiple, l =>
    cases l <;> simp [gaugeEstimate, lengthEstimate]

end

/-- Settles O34: the trailing edge by the transport's state, the delivery by the record's, the measurement by its classes. -/
theorem trailingEdges : Obligations.TrailingEdges := by
  unfold Obligations.TrailingEdges
  refine ⟨?_, ?_, ?_, casReport_deliver, ?_⟩
  · rintro s path n r m k estimate rfl he hs hr hk hm hest b rfl
    have hslot : m.slot = some k := by rw [hm]; exact hk
    have hstate := ntgAdvance_state s.ntg path
    refine ⟨fun tL tR ho hi => ?_, fun ho => ?_⟩
    · rw [trailingEdge_acts path he, trailing_note (by simpa [hstate] using hs) hr,
        trailNote_accept (by simpa using hm) hslot hest ho hi, learnFrom_eq]
    · rw [trailingEdge_acts path he, trailing_note (by simpa [hstate] using hs) hr,
        trailNote_reject (by simpa using hm) hslot hest ho]
  · rintro s path n r rfl he hs hr b rfl
    have hpurge : exec (.trailingEdge path) s
        = .next (settle (trailPurge r { begun s with ntg := { ntgAdvance path s.ntg with edge := false } })) := by
      rw [trailingEdge_acts path he, trailing_purge ((ntgAdvance_state s.ntg path).trans hs) hr]
    refine ⟨fun k hk hest => ?_, fun h => ?_, rfl, rfl, rfl, rfl, rfl, rfl, rfl, rfl, fun length hl => ?_⟩
    · rw [hpurge, trailPurge_unreported hk hest]
      rfl
    · rw [hpurge, trailPurge_reported h]
      rfl
    · simp [purgedEdge, hl]
  · rintro m length estimate l o hlen hl ho he
    simp [lastOf, hlen, hl, ho, he]
  · rintro cas gateLength length k r m l hk hr rfl hs hc ho
    have hl := lengthClass_eq hs hc ho
    have hj := measured_judged (gateLength := gateLength) hk hr hl
    have hg := measured_gauge (cas := cas) (gateLength := gateLength) hr
    have hgauge := hj.reason_of_gauge
    exact ⟨rfl, rfl, by simp [measured, hr], measured_lengthClass hk hr hl, rfl, rfl, hg.1, hg.2, hj.accept,
      fun h => ⟨(hj.reject h).1, (hj.reject h).2.1⟩, hgauge.1, hgauge.2.1, hgauge.2.2.1, hgauge.2.2.2,
      hj.reason_of_length, hj.estimates⟩

end Sys2Proof.Machine
end

section
/-!
PROOF. The configuration commands: what they store, and that nothing they set off touches what is stored.
-/

namespace Sys2Proof.Machine

open Sys2Proof

/-! ### What CONFIG_LANE stores stays when a loop latches and when the blocks settle (R144, R145, R182) -/

/-- The values of CONFIG_LANE outside the imprint and the alarm block. -/
def laneValues (s : State) : Nat × Nat × Nat × Nat × Nat :=
  (s.dsp.bundleLimit, s.drw.takeTimeout, s.drw.depositTimeout, s.pt.wallLimit, s.ntg.gateLength)

/-- Those of the imprint. -/
def imprintValues (k : Ink) : Nat × Bool × Nat := (k.energy, k.mirror, k.seqCounter)

def loopEnables (a : Alm) : Four Bool :=
  ⟨a.loops.one.enabled, a.loops.two.enabled, a.loops.three.enabled, a.loops.four.enabled⟩

section

variable (s : State)

@[simp] theorem ntgWithdraw_gateLength (n : Ntg) : (ntgWithdraw n).1.gateLength = n.gateLength := by
  unfold ntgWithdraw
  dsimp only
  (repeat' split) <;> rfl

@[simp] theorem ntgDivert_gateLength (n : Ntg) : (ntgDivert n).gateLength = n.gateLength := by
  unfold ntgDivert
  split <;> rfl

/-- A retraction order leaves the two timeouts of the drawer. -/
@[simp] theorem retractOrder_timeouts (d : Drw) :
    (retractOrder d).takeTimeout = d.takeTimeout ∧ (retractOrder d).depositTimeout = d.depositTimeout := by
  unfold retractOrder
  (repeat' split) <;> exact ⟨rfl, rfl⟩

@[simp] theorem lockdownOrder_timeouts (d : Drw) :
    (lockdownOrder d).takeTimeout = d.takeTimeout ∧ (lockdownOrder d).depositTimeout = d.depositTimeout := by
  unfold lockdownOrder
  split <;> simp

theorem dspEnd_laneValues (reason : EndReason) (after : DspState) : laneValues (dspEnd reason after s) = laneValues s := by
  have hlimit : (dspEnd reason after s).dsp.bundleLimit = s.dsp.bundleLimit := by
    unfold dspEnd
    dsimp only
    (repeat' split) <;> simp
  simp [laneValues, hlimit]

theorem finishPurge_laneValues : laneValues (finishPurge s) = laneValues s := dspEnd_laneValues _ _ _

theorem dspEndByPurge_laneValues (reason : EndReason) : laneValues (dspEndByPurge reason s) = laneValues s := by
  unfold dspEndByPurge
  dsimp only
  split
  · exact finishPurge_laneValues _
  · split
    · exact (finishPurge_laneValues _).trans (by simp [laneValues])
    · simp [laneValues]

theorem dspEndReserving_laneValues (reason : EndReason) : laneValues (dspEndReserving reason s) = laneValues s := by
  unfold dspEndReserving
  split
  · split <;> rfl
  · exact dspEnd_laneValues _ _ _

theorem dspLockdown_laneValues : laneValues (dspLockdown s) = laneValues s := by
  unfold dspLockdown
  split
  · exact dspEndReserving_laneValues _ _
  · exact dspEndByPurge_laneValues _ _
  · exact dspEndByPurge_laneValues _ _
  · exact dspEndByPurge_laneValues _ _
  · exact dspEndByPurge_laneValues _ _
  all_goals rfl

theorem formWall_laneValues : laneValues (formWall s) = laneValues s := by
  unfold formWall
  dsimp only
  split
  · have h := dspLockdown_laneValues { s with alm.wall := s.formedWall }
    split
    · refine Eq.trans ?_ h
      simp [laneValues]
    · exact h
  · rfl

theorem latchKinds_laneValues (kinds : AlarmSet) : laneValues (latchKinds kinds s) = laneValues s := by
  unfold latchKinds
  dsimp only
  split
  · rfl
  · have h := formWall_laneValues
      { s with alm.latch := s.alm.latch.union kinds, alm.latchChanged := true, biu.alarmFlag := true }
    (repeat' split) <;> exact h

theorem setEnable_laneValues (loop : Slot) (enabled : Bool) : laneValues (setEnable loop enabled s) = laneValues s := by
  unfold setEnable
  dsimp only
  split
  · exact latchKinds_laneValues _ _
  · rfl

/-- Only the loop's own enable bit changes. -/
theorem setEnable_loops (loop : Slot) (enabled : Bool) :
    (setEnable loop enabled s).alm.loops = s.alm.loops.modify loop (fun l => { l with enabled := enabled }) := by
  unfold setEnable
  dsimp only
  split
  · exact (latchKinds_keeps _ _).2.2.2.2.2.2.2.2.2.2.2.2.2.1
  · rfl

/-! ### In AWAIT_CONFIG (R180) -/

theorem faultReport_awaitConfig {s : State} (h : s.lsv.lane = .awaitConfig) : faultReport s = s := by
  simp [faultReport, h]

theorem endWindow_imprintValues (k : Ink) : imprintValues (endWindow k) = imprintValues k := by
  unfold endWindow
  split <;> rfl

/-- What CONFIG_LANE stores but the enable bits, and the lane state. -/
def configView (s : State) : (Nat × Nat × Nat × Nat × Nat) × (Nat × Bool × Nat) × LaneState :=
  (laneValues s, imprintValues s.ink, s.lsv.lane)

theorem inkJam_configView {s : State} (cause : InkJam) (h : s.lsv.lane = .awaitConfig) :
    configView (inkJam cause s) = configView s := by
  have hend := endWindow_imprintValues s.ink
  have hjam : ∀ t : State, t.lsv.lane = .awaitConfig →
      configView (if (faultReport t).ink.clearPending then { faultReport t with ink := startClear (faultReport t).ink }
        else faultReport t) = configView t := fun t ht => by
    rw [faultReport_awaitConfig ht]
    split <;> rfl
  unfold inkJam
  dsimp only
  split
  · refine (hjam _ (by simpa using h)).trans ?_
    simpa [configView, laneValues, imprintValues] using hend
  · refine (hjam { s with ink := { endWindow s.ink with
      state := .jammed, record := { (endWindow s.ink).record with outcome := some .jammed, jam := cause } } } h).trans ?_
    simpa [configView, laneValues, imprintValues] using hend

theorem settleInk_configView {s : State} (h : s.lsv.lane = .awaitConfig) : configView (settleInk s) = configView s := by
  unfold settleInk
  split
  · split
    · rfl
    · split
      · unfold inkStart
        dsimp only
        split
        · exact inkJam_configView _ h
        · rfl
      · rfl
  · rfl

theorem settleDrw_configView (s : State) : configView (settleDrw s) = configView s := by
  have htake : ∀ req, configView (takeNotes req s) = configView s := fun req => by
    simp only [takeNotes, dropWait]
    split <;> rfl
  unfold settleDrw
  split
  · split
    · split
      · split
        · rfl
        · simp [configView, laneValues, trayItem]
      · dsimp only
        split
        · exact htake _
        · exact htake _
    · rfl
  · rfl

theorem settleNtg_configView (s : State) : configView (settleNtg s) = configView s := by
  unfold settleNtg
  dsimp only
  split <;> simp [configView, laneValues]

theorem settle_configView {s : State} (h : s.lsv.lane = .awaitConfig) : configView (settle s) = configView s :=
  calc configView (settlePkt (settleNtg (settleDrw (settleInk s))))
      = configView (settleNtg (settleDrw (settleInk s))) := by simp [configView, laneValues]
    _ = configView (settleDrw (settleInk s)) := settleNtg_configView _
    _ = configView (settleInk s) := settleDrw_configView _
    _ = configView s := settleInk_configView h

theorem setEnable_configView (loop : Slot) (enabled : Bool) (s : State) :
    configView (setEnable loop enabled s) = configView s := by
  simp [configView, setEnable_laneValues]

/-! ### A loop that is newly enabled (R144, R145) -/

theorem latchKinds_none (s : State) : latchKinds AlarmSet.empty s = s := by
  simp [latchKinds, AlarmSet.minus, AlarmSet.empty]

/-- An enable bit is set; a bit that is newly 1 latches what the loop's class latches. -/
theorem setEnable_eq (loop : Slot) (enabled : Bool) (s b : State)
    (hb : b = { s with alm.loops := s.alm.loops.set loop { s.alm.loops.get loop with enabled := enabled } }) :
    setEnable loop enabled s = if enabled ∧ (s.alm.loops.get loop).enabled = false
      then latchKinds (latchedBy loop (s.alm.loops.get loop).state s.alm.serviceWindow) b else b := by
  subst hb
  simp [setEnable, Four.modify_eq_set, loopLatches]

theorem latchedBy_opened {loop : Slot} {window : Bool} (h : loop ≠ .three ∨ window = false) :
    latchedBy loop .opened window = loopKind loop := by
  refine if_neg fun hn => ?_
  rcases h with h | h
  · exact h hn.1
  · simp [h] at hn

theorem setEnable_cases (s : State) (loop : Slot) (enabled : Bool) (b : State)
    (hb : b = { s with alm.loops := s.alm.loops.set loop { s.alm.loops.get loop with enabled := enabled } }) :
    (enabled = false ∨ (s.alm.loops.get loop).enabled = true ∨ (s.alm.loops.get loop).state = .normal →
      setEnable loop enabled s = b) ∧
    (enabled = true → (s.alm.loops.get loop).enabled = false →
      ((s.alm.loops.get loop).state = .opened → loop = .three → s.alm.serviceWindow = true → setEnable loop enabled s = b) ∧
      ((s.alm.loops.get loop).state = .opened → loop ≠ .three ∨ s.alm.serviceWindow = false →
        setEnable loop enabled s = latchKinds (loopKind loop) b) ∧
      ((s.alm.loops.get loop).state = .short →
        setEnable loop enabled s = latchKinds { AlarmSet.empty with tamper := true } b)) := by
  rw [setEnable_eq loop enabled s b hb]
  refine ⟨?_, fun hon hwas => ?_⟩
  · rintro (h | h | h)
    · rw [if_neg (by simp [h])]
    · rw [if_neg (by simp [h])]
    · split
      · rw [h]
        exact latchKinds_none b
      · rfl
  · rw [if_pos ⟨hon, hwas⟩]
    refine ⟨fun h hl hw => ?_, fun h hn => ?_, fun h => ?_⟩
    · rw [h, latchedBy, if_pos ⟨hl, hw⟩, latchKinds_none]
    · rw [h, latchedBy_opened hn]
    · rw [h, latchedBy]

end

/-! ### The checks and the answers (R182) -/

theorem config_locked {s : State} (h : s.lsv.lane ≠ .awaitConfig) (more : List (Bool × Code))
    (effect : State → State × Reply) : checked (configCheck s ++ more) effect s = (s, plain .configLocked) :=
  checked_refused s (by simp [configCheck, h]) effect

theorem config_open {s : State} (h : s.lsv.lane = .awaitConfig) (effect : State → State × Reply) :
    checked (configCheck s) effect s = effect s :=
  checked_eq (by simp [configCheck, h]) effect

theorem clampTo_eq_self_iff {lo hi v : Nat} (h : lo ≤ hi) : clampTo lo hi v = v ↔ lo ≤ v ∧ v ≤ hi :=
  ⟨fun he => he ▸ clampTo_bounds h v, fun ⟨hl, hh⟩ => clampTo_inside hl hh⟩

/-- An answer is CLAMPED exactly when a stored field differs from the one sent. -/
theorem stored_code {same : Bool} {P : Prop} [Decidable P] (h : same = true ↔ P) (detail : List Byte) :
    stored same detail = some (if P then .ok else .clamped, detail) := by
  simp [stored, h]

/-! ### CONFIG_LANE -/

/-- The fields of CONFIG_LANE that are clamped lie within their ranges. -/
abbrev LaneInRange (p : List Byte) : Prop :=
  10 ≤ field p 0 1 ∧ field p 0 1 ≤ 50 ∧ 10 ≤ field p 1 1 ∧ field p 1 1 ≤ 120 ∧ 20 ≤ field p 2 1 ∧ field p 2 1 ≤ 180
    ∧ 16 ≤ field p 7 1 ∧ field p 7 1 ≤ 64 ∧ field p 8 1 ≤ 63 ∧ 1 ≤ field p 10 3 ∧ field p 10 3 ≤ 999999

theorem testBit_mod_32 (n : Nat) {i : Nat} (h : i < 5) : (n % 32).testBit i = n.testBit i := by
  rw [show 32 = 2 ^ 5 from rfl, Nat.testBit_mod_two_pow]
  simp [h]

theorem enablesOf_mod_32 (n : Nat) : enablesOf (n % 32) = enablesOf n := by
  simp [enablesOf, testBit_mod_32]

theorem configureLane_eq (tag : Byte) (p : List Byte) (t b : State) (hb : b = { t with
      dsp.bundleLimit := clampTo 10 50 (field p 0 1), drw.takeTimeout := clampTo 10 120 (field p 1 1),
      drw.depositTimeout := clampTo 20 180 (field p 2 1), pt.wallLimit := field p 3 4,
      ntg.gateLength := clampTo 16 64 (field p 7 1), ink.energy := clampTo 0 63 (field p 8 1),
      ink.mirror := (field p 9 1).testBit 4, ink.seqCounter := clampTo 1 999999 (field p 10 3), lsv.gotLane := true }) :
    configureLane (tag :: p) t
      = (settle (setEnable .four ((field p 9 1).testBit 0) (setEnable .three ((field p 9 1).testBit 1)
            (setEnable .two ((field p 9 1).testBit 2) (setEnable .one ((field p 9 1).testBit 3) b)))),
         some (if LaneInRange p then .ok else .clamped,
          be1 (clampTo 10 50 (field p 0 1)) ++ be1 (clampTo 10 120 (field p 1 1)) ++ be1 (clampTo 20 180 (field p 2 1))
            ++ be4 (field p 3 4) ++ be1 (clampTo 16 64 (field p 7 1)) ++ be1 (clampTo 0 63 (field p 8 1))
            ++ be1 (field p 9 1 % 32) ++ be3 (clampTo 1 999999 (field p 10 3)))) := by
  have hshift : ∀ i n, field (tag :: p) (i + 1) n = field p i n := fun _ _ => rfl
  have hsame : (clampTo 10 50 (field p 0 1) = field p 0 1 && clampTo 10 120 (field p 1 1) = field p 1 1
      && clampTo 20 180 (field p 2 1) = field p 2 1 && clampTo 16 64 (field p 7 1) = field p 7 1
      && clampTo 0 63 (field p 8 1) = field p 8 1 && clampTo 1 999999 (field p 10 3) = field p 10 3) = true
      ↔ LaneInRange p := by
    simp [LaneInRange, clampTo_eq_self_iff, and_assoc]
  subst hb
  simp only [configureLane, hshift, Config.maxSequence, enablesOf_mod_32]
  rw [stored_code hsame, testBit_mod_32 _ (by decide)]
  rfl

/-! ### CONFIG_CASSETTE and CONFIG_BINS -/

theorem configureCassette_noSlot {tag : Byte} {p : List Byte} (h : Slot.ofNumber (field p 0 1) = none) (t : State) :
    configureCassette (tag :: p) t = (t, plain .badParam) := by
  have hs : Slot.ofNumber (field (tag :: p) 1 1) = none := h
  rw [configureCassette, hs]
  rfl

theorem configureCassette_eq {tag : Byte} {p : List Byte} {k : Slot} (h : Slot.ofNumber (field p 0 1) = some k) (t : State) :
    configureCassette (tag :: p) t
      = ({ t with cas := t.cas.set k (casJudge { t.cas.get k with
            denomination := field p 1 2, nominal := clampTo 120 400 (field p 3 2),
            ref8L := clampTo 8 8184 (field p 5 2), ref8R := clampTo 8 8184 (field p 7 2),
            loaded := min 3000 (field p 9 2), lowMark := min 3000 (field p 11 2), mispicks := 0,
            count := if field p 1 2 = 0 ∨ (t.cas.get k).present = false then 0 else min 3000 (field p 9 2) }) },
         some (if 120 ≤ field p 3 2 ∧ field p 3 2 ≤ 400 ∧ 8 ≤ field p 5 2 ∧ field p 5 2 ≤ 8184 ∧ 8 ≤ field p 7 2
              ∧ field p 7 2 ≤ 8184 ∧ field p 9 2 ≤ 3000 ∧ field p 11 2 ≤ 3000 then .ok else .clamped,
          be1 k.number ++ be2 (field p 1 2) ++ be2 (clampTo 120 400 (field p 3 2)) ++ be2 (clampTo 8 8184 (field p 5 2))
            ++ be2 (clampTo 8 8184 (field p 7 2)) ++ be2 (min 3000 (field p 9 2)) ++ be2 (min 3000 (field p 11 2)))) := by
  have hshift : ∀ i n, field (tag :: p) (i + 1) n = field p i n := fun _ _ => rfl
  have hsame : (clampTo 120 400 (field p 3 2) = field p 3 2 && clampTo 8 8184 (field p 5 2) = field p 5 2
      && clampTo 8 8184 (field p 7 2) = field p 7 2 && clampTo 0 3000 (field p 9 2) = field p 9 2
      && clampTo 0 3000 (field p 11 2) = field p 11 2) = true
      ↔ 120 ≤ field p 3 2 ∧ field p 3 2 ≤ 400 ∧ 8 ≤ field p 5 2 ∧ field p 5 2 ≤ 8184 ∧ 8 ≤ field p 7 2
        ∧ field p 7 2 ≤ 8184 ∧ field p 9 2 ≤ 3000 ∧ field p 11 2 ≤ 3000 := by
    simp [clampTo_eq_self_iff, and_assoc]
  simp only [configureCassette, hshift, h, Config.maxCount, Four.modify_eq_set]
  rw [stored_code hsame, clampTo_zero, clampTo_zero]
  rfl

theorem configureBins_eq (tag : Byte) (p : List Byte) (t : State) {rcap tcap ccap : Nat} {code : Code}
    (hr : rcap = clampTo 50 300 (field p 2 2)) (ht : tcap = clampTo 50 500 (field p 6 2))
    (hc : ccap = clampTo 100 1000 (field p 8 2))
    (hcode : code = (if rcap = field p 2 2 ∧ tcap = field p 6 2 ∧ ccap = field p 8 2 ∧ field p 0 2 ≤ rcap ∧ field p 4 2 ≤ tcap
      then .ok else .clamped)) :
    configureBins (tag :: p) t
      = ({ t with
            dsp.rejectCount := min rcap (field p 0 2), dsp.rejectCap := rcap, dsp.retractCount := min tcap (field p 4 2),
            dsp.retractCap := tcap, dsp.overflow := false, pkt.capacity := ccap, lsv.gotBins := true },
         some (code, be2 (min rcap (field p 0 2)) ++ be2 rcap ++ be2 (min tcap (field p 4 2)) ++ be2 tcap ++ be2 ccap)) := by
  have hshift : ∀ i n, field (tag :: p) (i + 1) n = field p i n := fun _ _ => rfl
  have hsame : (rcap = field p 2 2 && tcap = field p 6 2 && ccap = field p 8 2 && clampTo 0 rcap (field p 0 2) = field p 0 2
      && clampTo 0 tcap (field p 4 2) = field p 4 2) = true
      ↔ rcap = field p 2 2 ∧ tcap = field p 6 2 ∧ ccap = field p 8 2 ∧ field p 0 2 ≤ rcap ∧ field p 4 2 ≤ tcap := by
    simp [clampTo_eq_self_iff, and_assoc]
  simp only [configureBins, hshift, ← hr, ← ht, ← hc]
  rw [stored_code hsame, clampTo_zero, clampTo_zero, hcode]

/-! ### The four commands -/

section

variable {s : State} {source : Station} {tag : Byte}

theorem atCommand_awaitConfig (h : s.lsv.lane = .awaitConfig) : (atCommand s source).lsv.lane = .awaitConfig := by
  rw [atCommand_lsv, h]

/-- Outside AWAIT_CONFIG a configuration command is refused, whatever else it checks. -/
theorem config_refused (h : s.lsv.lane ≠ .awaitConfig) {kind : BitVec 7} {p : List Byte}
    (ht : Taken s source kind (tag :: p)) (hl : lengthAllowed kind (p.length + 1) = true)
    (more : State → List (Bool × Code)) (effect : List Byte → State → State × Reply) :
    act (onCommand kind source (tag :: p) (fun p s => checked (configCheck s ++ more s) (effect p) s)) s
      = .next (replied source tag kind .configLocked [] (atCommand s source)) :=
  command_answers ht hl (config_locked (by rw [atCommand_lsv]; exact h) _ _)

/-- In AWAIT_CONFIG it is answered as its effect says. -/
theorem config_answers (h : s.lsv.lane = .awaitConfig) {kind : BitVec 7} {p : List Byte}
    (ht : Taken s source kind (tag :: p)) (hl : lengthAllowed kind (p.length + 1) = true)
    {effect : List Byte → State → State × Reply} {u : State} {code : Code} {detail : List Byte}
    (he : effect (tag :: p) (atCommand s source) = (u, some (code, detail))) :
    act (onCommand kind source (tag :: p) (fun p s => checked (configCheck s) (effect p) s)) s
      = .next (replied source tag kind code detail u) :=
  command_answers ht hl ((config_open (atCommand_awaitConfig h) _).trans he)

end

/-- What is stored stands after the newly enabled loops have latched and the blocks have settled. -/
theorem configured_stays {b t : State} {e : Four Bool} (hl : b.lsv.lane = .awaitConfig)
    (ht : t = settle (setEnable .four e.four (setEnable .three e.three (setEnable .two e.two (setEnable .one e.one b))))) :
    configView t = configView b ∧ loopEnables t.alm = e ∧ t.cas = b.cas ∧ t.pkt.capacity = b.pkt.capacity
      ∧ t.lsv.gotLane = b.lsv.gotLane ∧ t.lsv.gotBins = b.lsv.gotBins := by
  subst ht
  refine ⟨?_, ?_, by simp, by simp, by simp, by simp⟩
  · rw [settle_configView (by simpa using hl)]
    simp only [setEnable_configView]
  · simp [loopEnables, setEnable_loops, Four.modify, Four.set, Four.get]

/-- CONFIG_DONE with both other commands taken enters the purge (R183). -/
theorem configDone_cases {s : State} (h : s.lsv.lane = .awaitConfig) (lines : Lines) (effect : State → State × Reply)
    (he : effect = fun s => settled (enterPurging (sample lines s), plain .ok)) :
    (s.lsv.gotLane = false ∨ s.lsv.gotBins = false →
      checked (configCheck s ++ [(!s.lsv.gotLane || !s.lsv.gotBins, .configIncomplete)]) effect s
        = (s, plain .configIncomplete)) ∧
    (s.lsv.gotLane = true → s.lsv.gotBins = true →
      checked (configCheck s ++ [(!s.lsv.gotLane || !s.lsv.gotBins, .configIncomplete)]) effect s
        = (settle (enterPurging { s with lines := lines }), plain .ok)) := by
  refine ⟨fun hg => checked_refused s ?_ effect, fun hlane hbins => ?_⟩
  · rcases hg with hg | hg <;> simp [configCheck, firstFailing, h, hg]
  · rw [checked_eq (by simp [configCheck, h, hlane, hbins]), he]
    rfl

/-- Settles O29: the refusal once for the four, then each command's effect, the values that stay, and the enable bits. -/
theorem configurationCommands : Obligations.ConfigurationCommands := by
  unfold Obligations.ConfigurationCommands
  intro s source tag lines
  refine ⟨fun h => ⟨fun p ht hp => ?_, fun p ht hp => ?_, fun p ht hp => ?_, fun ht => ?_⟩,
    fun h => ⟨fun p b ht hp hb => ?_, fun p ht hp => ⟨fun hk => ?_, ?_⟩, ?_, fun ht => ⟨fun hg => ?_, fun hl hbins => ?_⟩⟩,
    fun loop enabled b hb => setEnable_cases s loop enabled b hb, ⟨rfl, rfl, rfl, rfl⟩, fun c => ?_⟩
  · exact config_refused h ht (by rw [hp]; rfl) (fun _ => []) configureLane
  · exact config_refused h ht (by rw [hp]; rfl) (fun _ => []) configureCassette
  · exact config_refused h ht (by rw [hp]; rfl) (fun _ => []) configureBins
  · exact config_refused h ht rfl (fun s => [(!s.lsv.gotLane || !s.lsv.gotBins, .configIncomplete)])
      (fun _ s => settled (enterPurging (sample lines s), plain .ok))
  · have heq := configureLane_eq tag p (atCommand s source) b hb
    have hlane : b.lsv.lane = .awaitConfig := by
      rw [hb]
      exact atCommand_awaitConfig h
    obtain ⟨hview, henables, hcas, hcap, hgot, hbins⟩ := configured_stays (e := enablesOf (field p 9 1)) hlane rfl
    have hcasb : b.cas = s.cas := by rw [hb]; exact atCommand_cas s source
    have hcapb : b.pkt.capacity = s.pkt.capacity := by
      rw [hb]
      exact congrArg Pkt.capacity (atCommand_keeps s source).2.2.2.2.2.1
    have hgotb : b.lsv.gotBins = s.lsv.gotBins := by
      rw [hb, ← atCommand_lsv s source]
    subst hb
    simp only [configView, laneValues, imprintValues, Prod.mk.injEq] at hview
    obtain ⟨⟨hlimit, htake, hdep, hwall, hgate⟩, ⟨henergy, hmirror, hseq⟩, hstate⟩ := hview
    exact ⟨_, _, config_answers h ht (by rw [hp]; rfl) heq, rfl, fun hr => if_pos hr, fun hr => if_neg hr, hlimit, htake,
      hdep, hwall, hgate, henergy, hmirror, congrArg (fun e => (e.one, e.two, e.three, e.four)) henables, hseq, hgot,
      hstate.trans hlane, hcas.trans hcasb, hcap.trans hcapb, hbins.trans hgotb⟩
  · exact config_answers h ht (by rw [hp]; rfl) (configureCassette_noSlot hk _)
  · rintro k code hk rfl
    have heq := configureCassette_eq (tag := tag) hk (atCommand s source)
    rw [atCommand_cas] at heq
    exact config_answers h ht (by rw [hp]; rfl) heq
  · intro p ht hp rcap tcap ccap code hr htc hc hcode
    exact config_answers h ht (by rw [hp]; rfl) (configureBins_eq tag p _ hr htc hc hcode)
  · exact command_answers ht rfl
      ((configDone_cases (atCommand_awaitConfig h) lines _ rfl).1 (by rw [atCommand_lsv]; exact hg))
  · exact command_answers ht rfl
      ((configDone_cases (atCommand_awaitConfig h) lines _ rfl).2 (by rw [atCommand_lsv]; exact hl)
        (by rw [atCommand_lsv]; exact hbins))
  · refine ⟨fun hd => ?_, fun hd hp => ?_, fun hd hp => ⟨fun hc => ?_, fun hc hl => ?_, fun hc hl => ?_⟩⟩
    · rw [casJudge, casState_unused hd]
    · rw [casJudge, casState_away hd hp]
    · rw [casJudge, casState_seated hd hp, if_pos hc]
    · rw [casJudge, casState_seated hd hp, if_neg (Nat.ne_of_gt hc), if_pos hl]
    · rw [casJudge, casState_seated hd hp, if_neg (Nat.ne_of_gt hc), if_neg (Nat.not_le.2 hl)]

end Sys2Proof.Machine
end

section
/-!
PROOF. QUERY: the record it composes or the refusal, and the content of every section and part.
-/

namespace Sys2Proof.Machine

open Sys2Proof

/-! ### The lengths of fields (R179) -/

@[simp] theorem be1_length (n : Nat) : (be1 n).length = 1 := rfl
@[simp] theorem be2_length (n : Nat) : (be2 n).length = 2 := rfl
@[simp] theorem be3_length (n : Nat) : (be3 n).length = 3 := rfl
@[simp] theorem be4_length (n : Nat) : (be4 n).length = 4 := rfl
@[simp] theorem opt1_length (v : Option Nat) : (opt1 v).length = 1 := by cases v <;> rfl
@[simp] theorem opt2_length (v : Option Nat) : (opt2 v).length = 2 := by cases v <;> rfl
@[simp] theorem opt3_length (v : Option Nat) : (opt3 v).length = 3 := by cases v <;> rfl
@[simp] theorem bits_length (l : List Bool) : (bits l).length = 1 := rfl
@[simp] theorem recordPeer_length (p : Peer) : (recordPeer p).length = 8 := by simp [recordPeer]
@[simp] theorem recordCassette_length (k : Slot) (c : Cassette) : (recordCassette k c).length = 18 := by simp [recordCassette]
@[simp] theorem recordEnvelope_length (e : EnvRec) : (recordEnvelope e).length = 7 := by simp [recordEnvelope]
@[simp] theorem recordLoop_length (c : LoopClass) (l : AlarmLoop) : (recordLoop c l).length = 3 := rfl

/-- Two pocket records fit into a part. -/
theorem envelopes_length_le (l : List EnvRec) : ((l.take 2).flatMap recordEnvelope).length ≤ 14 := by
  have h : (l.take 2).length ≤ 2 := List.length_take_le 2 l
  simp only [List.length_flatMap, recordEnvelope_length, List.map_const', List.sum_replicate_nat]
  omega

/-- A LANE_RECORD carries at most 20 bytes of content (R178). -/
theorem sectionContent_length_le (s : State) (sec part : Nat) : (sectionContent sec part s).length ≤ 20 := by
  unfold sectionContent
  split
  case h_1 => simp [recordGeneral]
  case h_2 => simp [recordNtg]
  case h_3 => simp [recordDspValues]
  case h_4 => simp [recordDspCounts]
  case h_5 => simp [recordDrw]
  case h_6 => simp [recordInk]
  case h_7 => simp [recordAlm, Slot.all]
  case h_8 => simp [recordPt]
  case h_9 => simp
  case h_10 => simp
  case h_11 => simp
  case h_12 => simp
  case h_13 => simp
  case h_14 => simp
  case h_15 => simp [recordBins]
  case h_16 => simp [recordPocket]
  case h_17 => exact Nat.le_trans (envelopes_length_le _) (by decide)
  case h_18 => exact Nat.le_trans (envelopes_length_le _) (by decide)

/-! ### Bits that share a byte (R179) -/

/-- The weights of the places of `k` bits, the highest first. -/
def bitWeights : Nat → List Nat
  | 0 => []
  | k + 1 => 2 ^ k :: bitWeights k

/-- The number a list of bits spells from the highest of `k` places. -/
def bitsValue : Nat → List Bool → Nat
  | k + 1, b :: rest => b.toNat * 2 ^ k + bitsValue k rest
  | _, _ => 0

theorem foldl_weights : ∀ (l : List Bool) (k n : Nat),
    (List.zip l (bitWeights k)).foldl (fun n b => if b.1 then n + b.2 else n) n = n + bitsValue k l
  | [], 0, n | [], _ + 1, n | _ :: _, 0, n => by simp [bitWeights, bitsValue]
  | b :: rest, k + 1, n => by
    simp only [bitWeights, List.zip_cons_cons, List.foldl_cons, bitsValue]
    rw [foldl_weights rest k]
    cases b <;> simp [Nat.add_assoc]

theorem bitsValue_lt : ∀ (k : Nat) (l : List Bool), bitsValue k l < 2 ^ k
  | 0, _ => by simp [bitsValue]
  | k + 1, [] => Nat.two_pow_pos (k + 1)
  | k + 1, b :: rest => by
    have h := bitsValue_lt k rest
    rw [bitsValue, Nat.pow_succ]
    cases b <;> simp <;> omega

theorem bitsValue_testBit : ∀ (k : Nat) (l : List Bool) (i : Nat), i < k →
    (bitsValue k l).testBit (k - 1 - i) = l.getD i false
  | k + 1, [], i, _ => by simp [bitsValue]
  | k + 1, b :: rest, 0, _ => by
    have h := Nat.testBit_lt_two_pow (bitsValue_lt k rest)
    cases b
    · simpa [bitsValue] using h
    · simp [bitsValue, Nat.testBit_two_pow_add_eq, h]
  | k + 1, b :: rest, i + 1, hi => by
    have ih := bitsValue_testBit k rest i (by omega)
    have hplace : k + 1 - 1 - (i + 1) = k - 1 - i := by omega
    rw [hplace, bitsValue, List.getD_cons_succ, ← ih]
    cases b
    · simp
    · rw [Bool.toNat_true, Nat.one_mul, Nat.testBit_two_pow_add_gt (by omega)]

theorem packBits_getLsbD (l : List Bool) {i : Nat} (h : i < 8) : (packBits l).getLsbD (7 - i) = l.getD i false := by
  have hw : [128, 64, 32, 16, 8, 4, 2, 1] = bitWeights 8 := by decide
  rw [packBits, hw, foldl_weights, BitVec.getLsbD_ofNat, Nat.zero_add, bitsValue_testBit 8 l i h,
    decide_eq_true (by omega), Bool.true_and]

/-! ### The record or the refusal (R178) -/

section

variable {source : Station} {p : List Byte} {t : State} {sec part : Nat} (hs : field p 1 1 = sec) (hp : field p 2 1 = part)
include hs hp

theorem serveQuery_refused (h : ∀ n, sectionParts sec = some n → n ≤ part) :
    serveQuery source p t = ({ t with biu.fifo := t.biu.fifo.erase (.reserved .record) }, plain .badParam) := by
  simp only [serveQuery, hs, hp]
  split
  next => rfl
  next n hn => rw [if_neg (Nat.not_lt.2 (h n hn))]

theorem serveQuery_composes {parts : Nat} (h : sectionParts sec = some parts) (hlt : part < parts) :
    serveQuery source p t
      = (fillFrame .record
          { kind := 57, dest := source,
            payload := p.take 1 ++ be1 sec ++ be1 part ++ be1 parts ++ sectionContent sec part t }
          { t with cmd.eventGap := false },
         some (.ok, be1 sec ++ be1 part)) := by
  simp only [serveQuery, hs, hp, h, hlt, if_true]
  rfl

end

/-- What a QUERY's payload names, part 0 where it names no part. -/
theorem query_payload {p : List Byte} {tag sec part : Byte} (h : p = [tag, sec, part] ∨ (p = [tag, sec] ∧ part = 0)) :
    ∃ rest, p = tag :: rest ∧ lengthAllowed 34 (rest.length + 1) = true ∧ field p 1 1 = sec.toNat ∧ field p 2 1 = part.toNat := by
  rcases h with rfl | ⟨rfl, rfl⟩
  · exact ⟨_, rfl, rfl, by simp [field, beNat], by simp [field, beNat]⟩
  · exact ⟨_, rfl, rfl, by simp [field, beNat], by simp [field, beNat]⟩

theorem query_answers {s : State} {source : Station} {p : List Byte} {tag sec part : Byte} (lines : Lines)
    (h : p = [tag, sec, part] ∨ (p = [tag, sec] ∧ part = 0)) (ht : Taken s source 34 p) :
    ((∀ n, sectionParts sec.toNat = some n → n ≤ part.toNat) → exec (.query source p lines) s
      = .next (replied source tag 34 .badParam []
          { atCommand s source with lines := lines, biu.fifo := s.biu.fifo.erase (.reserved .record) })) ∧
    (∀ parts, sectionParts sec.toNat = some parts → part.toNat < parts → exec (.query source p lines) s
      = .next (replied source tag 34 .ok (be1 sec.toNat ++ be1 part.toNat)
          (fillFrame .record
            { kind := 57, dest := source,
              payload := [tag] ++ be1 sec.toNat ++ be1 part.toNat ++ be1 parts
                ++ sectionContent sec.toNat part.toNat { atCommand s source with lines := lines } }
            { atCommand s source with lines := lines, cmd.eventGap := false }))) := by
  obtain ⟨rest, rfl, hl, hs, hp⟩ := query_payload h
  have hfifo : (atCommand s source).biu.fifo = s.biu.fifo := (atCommand_keeps s source).2.2.2.2.2.2.2.2.2.2.2.2.2.2.1
  refine ⟨fun hn => ?_, fun parts hn hlt => ?_⟩
  · rw [← hfifo]
    exact command_answers ht hl (serveQuery_refused (t := sample lines (atCommand s source)) hs hp hn)
  · exact command_answers ht hl (serveQuery_composes (t := sample lines (atCommand s source)) hs hp hn hlt)

/-! ### The content of the sections (R178) -/

/-- Counting by a filter and by an optional value agree where the filter keeps what has a value. -/
theorem filterMap_length_eq {α β : Type} {f : α → Option β} {g : α → Bool} (h : ∀ a, g a = (f a).isSome) (l : List α) :
    (l.filterMap f).length = (l.filter g).length := by
  rw [List.length_filterMap_eq_countP, List.countP_eq_length_filter, funext h]

theorem optBit_getD (b : Option Bool) : optBit b = b.getD true := by cases b <;> rfl

theorem userTimer_eq (d : Drw) : d.userTimer = d.take.orElse (fun _ => d.deposit) := by
  rw [Drw.userTimer]
  cases d.take <;> rfl

theorem returningSeq_eq (pocket : List EnvRec) : returningSeq pocket
    = ((pocket.find? (fun e => decide (e.state = .returning))).map (fun e => e.seq)).getD 0 := by
  rw [returningSeq]
  cases pocket.find? (fun e => decide (e.state = .returning)) <;> rfl

/-- Section 0 part 0, for functions that pick the queued frames and the reservations out of the FIFO. -/
theorem general_content (s : State) {f : FifoPos → Option OutFrame} {r : FifoPos → Option Reservation}
    (hframe : ∀ x, f (.frame x) = some x ∧ r (.frame x) = none)
    (hreserved : ∀ x, f (.reserved x) = none ∧ r (.reserved x) = some x) : sectionContent 0 0 s
      = be1 s.lsv.lane.code ++ be1 s.lsv.station.toNat
        ++ be1 (s.cmd.owner.getD 15).toNat ++ [packBits [s.cmd.eventGap, s.biu.slow, s.biu.quiet.isSome]]
        ++ be2 (s.biu.quiet.getD 0) ++ be1 s.biu.voidCount ++ be1 s.biu.wallQueue.length
        ++ be1 (s.biu.fifo.filterMap f).length ++ be1 (s.biu.fifo.filterMap r).length
        ++ [packBits [s.biu.alarmFlag, s.biu.statusFlag]] := by
  rw [sectionContent, recordGeneral, ← filterMap_length_eq (f := f), ← filterMap_length_eq (f := r)]
  · rfl
  · intro p
    cases p with
    | frame x => rw [(hframe x).2]; rfl
    | reserved x => rw [(hreserved x).2]; rfl
  · intro p
    cases p with
    | frame x => rw [(hframe x).1]; rfl
    | reserved x => rw [(hreserved x).1]; rfl

theorem transport_content {s : State} {m : Measured} (h : s.ntg.last = some m) : sectionContent 0 1 s
    = be1 s.ntg.state.code ++ be1 s.ntg.cause.code
      ++ be2 s.ntg.c0L ++ be2 s.ntg.c0R ++ [packBits [s.ntg.valid]] ++ be1 s.ntg.records.length
      ++ opt1 (m.slot.map Slot.number) ++ opt2 (m.indices.map (fun t => t.1)) ++ opt2 (m.indices.map (fun t => t.2))
      ++ be2 m.length ++ opt1 (m.gauge.map GaugeClass.code) ++ be1 m.lengthClass.code
      ++ [packBits [decide (m.outcome = .reject)]] ++ opt1 (m.reason.map RejectReason.code) ++ be1 m.estimate := by
  rw [sectionContent, recordNtg, h]
  rfl

theorem transport_content_none {s : State} (h : s.ntg.last = none) : sectionContent 0 1 s
    = be1 s.ntg.state.code ++ be1 s.ntg.cause.code ++ be2 s.ntg.c0L
      ++ be2 s.ntg.c0R ++ [packBits [s.ntg.valid]] ++ be1 s.ntg.records.length ++ be1 255 ++ be2 65535 ++ be2 65535
      ++ be2 65535 ++ be1 255 ++ be1 255 ++ [0x80] ++ be1 255 ++ be1 255 := by
  have hbit : bits [optBit none] = [0x80] := by decide
  rw [sectionContent, recordNtg, h, Option.map_none, Option.map_none, Option.map_none, Option.map_none, hbit]
  rfl

theorem drawer_content (s : State) : sectionContent 0 4 s = be1 s.drw.state.code ++ be1 s.drw.purpose.code
    ++ [packBits [if s.drw.state = .extending then decide (s.drw.phase = .travel) else true]]
    ++ opt1 (s.drw.pendingReq.map (fun r => r.bundle)) ++ opt1 (s.drw.pendingReq.map (fun r => r.count))
    ++ [packBits [(s.drw.pendingReq.map (fun r => r.final)).getD true, s.drw.blocked, s.drw.reported, s.drw.hold]]
    ++ opt3 (if s.drw.purpose = .ret then s.drw.returnSeq else none) ++ be1 s.drw.obstructions ++ be1 s.drw.jam.code
    ++ be1 (remaining 1000 ((s.drw.take.orElse (fun _ => s.drw.deposit)).getD 0))
    ++ [packBits [s.lines.home, s.lines.ext, s.drw.tray, s.drw.safe]] := by
  have hphase : optBit (if s.drw.state = .extending then some (s.drw.phase = .travel) else none)
      = if s.drw.state = .extending then decide (s.drw.phase = .travel) else true := by split <;> rfl
  rw [sectionContent, recordDrw, hphase, optBit_getD, userTimer_eq]
  rfl

theorem imprint_content (s : State) : sectionContent 0 5 s = be1 s.ink.state.code ++ be1 s.ink.record.jam.code
    ++ be3 s.ink.seqCounter ++ be1 s.ink.fieldPage
    ++ be1 s.ink.fieldCol ++ [packBits [s.lines.hot, s.ink.sensor, s.ink.mirror]] ++ be1 s.ink.energy
    ++ be1 s.ink.record.kind.code ++ opt3 s.ink.record.seq ++ opt2 s.ink.record.length
    ++ opt1 (s.ink.record.outcome.map IntakeOutcome.code) ++ opt1 s.ink.record.strobed ++ opt1 s.ink.record.skipped
    ++ [packBits [s.ink.record.hotSeen.getD true]] ++ opt1 (s.ink.record.quality.map Quality.code) := by
  rw [sectionContent, recordInk, optBit_getD]
  rfl

/-- Sections 8 to 14 hold two peers each, section 15 the last (R142). -/
theorem peer_content (s : State) {n : Nat} (h : n < 7) : sectionContent 0 (8 + n) s
    = recordPeer (peerView s (2 * n)) ++ recordPeer (peerView s (2 * n + 1)) := by
  match n, h with
  | 0, _ | 1, _ | 2, _ | 3, _ | 4, _ | 5, _ | 6, _ => rfl

theorem cassette_content (s : State) (k : Slot) : sectionContent k.number 0 s = recordCassette k (s.cas.get k) := by
  cases k <;> rfl

theorem pocket_content (s : State) : sectionContent 6 0 s = be1 s.pkt.pocket.length ++ be1 s.coveredPlaces
    ++ be1 s.pkt.chute.code
    ++ be2 (if s.pkt.chute = .launched then remaining 100 (s.pkt.gate.getD 0) else 0) ++ be1 s.pkt.fairness.isSome.toNat
    ++ be3 (((s.pkt.pocket.find? (fun e => decide (e.state = .returning))).map (fun e => e.seq)).getD 0) := by
  rw [sectionContent, recordPocket, returningSeq_eq]
  rfl

/-- Settles O27: the answer by the section's number of parts, and the content section by section. -/
theorem queryComposesARecord : Obligations.QueryComposesARecord := by
  unfold Obligations.QueryComposesARecord
  refine ⟨fun s source p tag sec part lines parts h ht => ⟨fun hn => ?_, fun hn => ⟨fun hle => ?_, fun hlt => ?_⟩⟩,
    ⟨rfl, fun n hn => ?_, fun s sec part parts _ _ => sectionContent_length_le s sec part,
      fun l i _ hi => packBits_getLsbD l hi⟩, fun s => ?_, ?_⟩
  · exact (query_answers lines h ht).1 (by simp [hn])
  · exact (query_answers lines h ht).1 (fun n hn' => by rw [hn] at hn'; cases hn'; exact hle)
  · exact (query_answers lines h ht).2 parts hn hlt
  · unfold sectionParts
    split <;> first | omega | rfl
  · refine ⟨general_content s (fun _ => ⟨rfl, rfl⟩) (fun _ => ⟨rfl, rfl⟩), fun m hm => transport_content hm,
      transport_content_none, rfl, rfl, drawer_content s, imprint_content s, rfl, rfl, ?_, ?_, rfl, pocket_content s, ?_⟩
    · rintro peer rfl
      exact ⟨fun n hn => peer_content s hn, rfl⟩
    · rintro k c rfl
      exact cassette_content s k
    · rintro envelope rfl
      exact ⟨rfl, rfl⟩
  · exact ⟨rfl, fun _ => rfl, rfl, rfl, rfl, rfl, rfl, rfl, rfl, rfl, rfl, rfl, rfl, rfl, rfl, rfl, rfl, rfl, rfl, rfl,
      rfl, rfl⟩

end Sys2Proof.Machine
end

section
/-!
PROOF. The thickness index of a gauge channel and the classes that channels and object take from it.
-/

namespace Sys2Proof.Machine

open Sys2Proof

/-! ### The thickness index (R30) -/

theorem thickness_uncovered {c0 cn : Nat} (h : c0 ≤ cn) : thickness c0 cn = 0 := if_pos h

theorem clampTo_zero_le (hi v : Nat) : clampTo 0 hi v ≤ hi := (clampTo_bounds (Nat.zero_le hi) v).2

theorem thickness_fallen {c0 cn : Nat} (h : cn < c0) :
    thickness c0 cn = min 1023 (((c0 - cn) * 1024 + c0 / 2) / c0) := by
  rw [thickness, if_neg (Nat.not_le.2 h), clampTo_zero, Nat.min_comm]

theorem thickness_le (c0 cn : Nat) : thickness c0 cn ≤ 1023 := by
  unfold thickness
  split
  · omega
  · exact clampTo_zero_le 1023 _

/-- The fall is at most the whole baseline, so that its rounded share in 1,024ths is at most 1,024. -/
theorem rounded_fall_le {c0 : Nat} (cn : Nat) (h : 1 ≤ c0) : ((c0 - cn) * 1024 + c0 / 2) / c0 ≤ 1024 := by
  have hlt : (c0 - cn) * 1024 + c0 / 2 < (1024 + 1) * c0 := by omega
  exact Nat.le_of_lt_succ ((Nat.div_lt_iff_lt_mul h).2 hlt)

/-! ### The classes (R31, R32) -/

theorem channelClass_iff (t ref8 : Nat) :
    (channelClass t ref8 = .low ↔ 64 * t < 5 * ref8) ∧
    (channelClass t ref8 = .one ↔ 5 * ref8 ≤ 64 * t ∧ 64 * t ≤ 13 * ref8) ∧
    (channelClass t ref8 = .two ↔ 13 * ref8 < 64 * t ∧ 64 * t ≤ 21 * ref8) ∧
    (channelClass t ref8 = .many ↔ 21 * ref8 < 64 * t) := by
  unfold channelClass
  (repeat' split) <;> simp <;> omega

/-- Settles O49: the index by the two sides of the baseline, the channel by its thresholds, the object by its pair of classes. -/
theorem gaugeIndexAndClasses : Obligations.GaugeIndexAndClasses := by
  unfold Obligations.GaugeIndexAndClasses
  refine ⟨fun c0 cn => ⟨thickness_uncovered, thickness_fallen, thickness_le c0 cn, fun _ _ => by omega, fun h hgt => ?_⟩,
    channelClass_iff, fun l r => ?_⟩
  · exact Nat.le_antisymm (rounded_fall_le cn (by omega)) hgt
  · cases l <;> cases r <;> simp [gaugeClass]

end Sys2Proof.Machine
end

section
/-!
PROOF. What halts the transport, what stays below its limits, and what a fault report makes of lane and dispense.
-/

namespace Sys2Proof.Machine

open Sys2Proof

/-! ### The pulses counted (R20, R22, R36) -/

theorem motor_iff (st : NtgState) :
    st.motor = true ↔ st = .baseline ∨ st = .feeding ∨ st = .draining ∨ st = .purge := by
  cases st <;> simp [NtgState.motor]

theorem advanceExit_cleared (pulses : Nat) {cleared : Option Nat} (mark : Option Nat) (h : cleared ≠ none) :
    advanceExit pulses cleared mark = none := by
  obtain ⟨since, rfl⟩ := Option.ne_none_iff_exists'.1 h
  rfl

theorem advanceExit_covered (pulses m : Nat) : advanceExit pulses none (some m) = some (m + pulses) := rfl

/-- With no pulses counted only the level of the sensor is followed. -/
theorem advanceExit_standing (cleared mark : Option Nat) :
    advanceExit 0 cleared mark = if cleared = none then mark else none := by
  cases cleared <;> cases mark <;> rfl

section

variable {n : Ntg} {path : PathCount}

theorem ntgAdvance_driven (h : n.state.motor = true) :
    ntgAdvance path n = { n with
      sinceStart := n.sinceStart + path.pulses, records := n.records.map (advanceRecord path.pulses),
      exitS := advanceExit path.pulses path.clearedS n.exitS, exitR := advanceExit path.pulses path.clearedR n.exitR,
      clearFor := pathClearFor path n } := if_pos h

theorem ntgAdvance_standing (h : n.state.motor = false) :
    ntgAdvance path n = { n with
      exitS := if path.clearedS = none then n.exitS else none, exitR := if path.clearedR = none then n.exitR else none } := by
  rw [ntgAdvance, h, if_neg Bool.false_ne_true, advanceExit_standing, advanceExit_standing]

end

/-! ### The halts (R33, R36, R38) -/

section

variable (s : State) (path : PathCount)

/-- An object still at the edge sensor at the limit of its cassette (R33). -/
def longAtGauge (cas : Four Cassette) (n : Ntg) : Bool :=
  n.edge && (firstOf .atGauge n.records).any (fun r => reached r.sinceLead (longLimit (nominalOf cas r.slot)))

/-- An object on its way to the exits for too long (R36). -/
def exitMissed (n : Ntg) : Bool :=
  n.records.any (fun r => r.stage = .pastGauge && reached r.sinceTrail Config.exitPulses)

/-- An exit sensor covered for too long (R36). -/
def exitHeld (n : Ntg) : Bool := reached n.exitS Config.blockedPulses || reached n.exitR Config.blockedPulses

theorem transportStall_eq : exec (.transportStall path) s
    = .next (when (ntgAdvance path s.ntg).state.motor (fun t => settle (transportHalt .stall t))
        { begun s with ntg := ntgAdvance path s.ntg }) := rfl

theorem longObject_eq : exec (.longObject path) s
    = .next (when ((ntgAdvance path s.ntg).state.motor && longAtGauge s.cas (ntgAdvance path s.ntg))
        (fun t => settle (transportHalt .longObject t)) { begun s with ntg := ntgAdvance path s.ntg }) := by
  rw [longAtGauge, ← Bool.and_assoc]
  rfl

theorem noExit_eq : exec (.noExit path) s
    = .next (when ((ntgAdvance path s.ntg).state.motor && exitMissed (ntgAdvance path s.ntg))
        (fun t => settle (transportHalt .noExit t)) { begun s with ntg := ntgAdvance path s.ntg }) := rfl

theorem exitBlocked_eq : exec (.exitBlocked path) s
    = .next (when ((ntgAdvance path s.ntg).state.motor && exitHeld (ntgAdvance path s.ntg))
        (fun t => settle (transportHalt .exitBlocked t)) { begun s with ntg := ntgAdvance path s.ntg }) := rfl

end

theorem reached_iff (mark : Option Nat) (p : Nat) : reached mark p = true ↔ ∃ m, mark = some m ∧ p ≤ m := by
  cases mark <;> simp [reached]

theorem longAtGauge_iff (cas : Four Cassette) (n : Ntg) :
    longAtGauge cas n = true ↔ n.edge = true ∧ ∃ r m, firstOf .atGauge n.records = some r ∧ r.sinceLead = some m
      ∧ longLimit (nominalOf cas r.slot) ≤ m := by
  simp [longAtGauge, Option.any_eq_true, reached_iff]

theorem exitMissed_iff (n : Ntg) :
    exitMissed n = true ↔ ∃ r ∈ n.records, r.stage = .pastGauge ∧ ∃ m, r.sinceTrail = some m ∧ 80 ≤ m := by
  simp [exitMissed, reached_iff, Config.exitPulses]

theorem exitHeld_iff (n : Ntg) :
    exitHeld n = true ↔ ∃ m, (n.exitS = some m ∨ n.exitR = some m) ∧ 200 ≤ m := by
  simp [exitHeld, reached_iff, Config.blockedPulses, or_and_right, exists_or]

/-- Outside a purge run a halt is a JAM. -/
theorem transportHalt_jam (cause : HaltCause) {t : State} (h : t.ntg.state ≠ .purge) :
    transportHalt cause t = faultReport (dspFault { t with ntg := ntgHalt cause t.ntg }) := if_neg h

/-! ### Faults (R67, R185) -/

section

variable {s : State}

theorem dspFault_unmoved (h : s.dsp.state = .idle ∨ s.dsp.state = .fault) : dspFault s = s := by
  rcases h with h | h <;> rw [dspFault, h]

theorem dspFault_reserving (h : s.dsp.state = .reserving) :
    (s.reserveSending = false → dspFault s = dspEnd .jam .fault (dropWall (.reserve s.dsp.amount) s)) ∧
    (s.reserveSending = true → dspFault s = { s with dsp.pendingEnd := some .jam }) := by
  constructor <;> intro hs <;> simp [dspFault, h, dspEndReserving, hs, afterEnd]

theorem dspFault_purging (h : s.dsp.state = .purging) :
    (s.dsp.dispensing = false → dspFault s = s) ∧
    (s.dsp.dispensing = true →
      dspFault s = dspEnd .jam .fault { s with ntg := ntgStop s.ntg, dsp.pendingEnd := some .jam }) := by
  constructor <;> intro hd <;> simp [dspFault, h, hd]

theorem dspFault_running (h : s.dsp.state = .baseline ∨ s.dsp.state = .picking ∨ s.dsp.state = .stacked
      ∨ s.dsp.state = .presenting ∨ s.dsp.state = .suspended) :
    dspFault s = dspEnd .jam .fault { s with ntg := ntgStop s.ntg } := by
  rcases h with h | h | h | h | h <;> rw [dspFault, h]

theorem faultReport_working (h : s.lsv.lane = .purging ∨ s.lsv.lane = .listening ∨ s.lsv.lane = .closed
      ∨ s.lsv.lane = .opened) : faultReport s = dspFault { s with lsv.lane := .fault } := by
  rcases h with h | h | h | h <;> rw [faultReport, h]

/-- A purge run that halts takes dispense engine and lane to FAULT (R183). -/
theorem purgeHalt_fails (cause : HaltCause) (hd : s.dsp.state = .purging) (hr : s.dsp.dispensing = false) :
    purgeHalt cause s = { s with
      ntg := ntgHalt cause s.ntg, dsp.state := .fault,
      lsv.lane := if s.lsv.lane = .purging then .fault else s.lsv.lane } := by
  by_cases hl : s.lsv.lane = .purging
  · simp [purgeHalt, hd, hr, purgeFail, hl, dspFault]
  · simp [purgeHalt, hd, hr, purgeFail, hl]

end

/-- Each cause, past its limit with the motor driven, halts the transport. -/
theorem halting_acts {s : State} {c : Instr} {path : PathCount} {cause : HaltCause} {n : Ntg}
    (hn : n = ntgAdvance path s.ntg) (hm : s.ntg.state.motor = true)
    (h : (c = .transportStall path ∧ cause = .stall)
      ∨ (c = .longObject path ∧ cause = .longObject ∧ s.ntg.edge = true ∧ ∃ r m, firstOf .atGauge n.records = some r
          ∧ r.sinceLead = some m ∧ longLimit (nominalOf s.cas r.slot) ≤ m)
      ∨ (c = .noExit path ∧ cause = .noExit ∧ ∃ r ∈ n.records, r.stage = .pastGauge ∧ ∃ m, r.sinceTrail = some m ∧ 80 ≤ m)
      ∨ (c = .exitBlocked path ∧ cause = .exitBlocked ∧ ∃ m, (n.exitS = some m ∨ n.exitR = some m) ∧ 200 ≤ m)) :
    exec c s = .next (settle (transportHalt cause { begun s with ntg := n })) := by
  subst hn
  have hmotor : (ntgAdvance path s.ntg).state.motor = true := by rw [ntgAdvance_state, hm]
  rcases h with ⟨rfl, rfl⟩ | ⟨rfl, rfl, he, hlong⟩ | ⟨rfl, rfl, hmissed⟩ | ⟨rfl, rfl, hheld⟩
  · rw [transportStall_eq, hmotor, when_true]
  · rw [longObject_eq, hmotor, (longAtGauge_iff s.cas _).2 ⟨(ntgAdvance_edge _ _).trans he, hlong⟩, Bool.true_and, when_true]
  · rw [noExit_eq, hmotor, (exitMissed_iff _).2 hmissed, Bool.true_and, when_true]
  · rw [exitBlocked_eq, hmotor, (exitHeld_iff _).2 hheld, Bool.true_and, when_true]

/-- Below its limit, or with the motor off, no cause halts the transport. -/
theorem halting_ignored (s : State) (path : PathCount) (n : Ntg) (hn : n = ntgAdvance path s.ntg) :
    (exitHeld n = false → exec (.exitBlocked path) s = .next { begun s with ntg := n }) ∧
    (longAtGauge s.cas n = false → exec (.longObject path) s = .next { begun s with ntg := n }) ∧
    (exitMissed n = false → exec (.noExit path) s = .next { begun s with ntg := n }) ∧
    (s.ntg.state.motor = false →
      exec (.transportStall path) s = .next { begun s with ntg := n } ∧ exec (.longObject path) s = .next { begun s with ntg := n }
      ∧ exec (.noExit path) s = .next { begun s with ntg := n }
      ∧ exec (.exitBlocked path) s = .next { begun s with ntg := n }) := by
  subst hn
  refine ⟨fun h => ?_, fun h => ?_, fun h => ?_, fun h => ?_⟩
  · rw [exitBlocked_eq, h, Bool.and_false, when_false]
  · rw [longObject_eq, h, Bool.and_false, when_false]
  · rw [noExit_eq, h, Bool.and_false, when_false]
  · rw [transportStall_eq, longObject_eq, noExit_eq, exitBlocked_eq, ntgAdvance_state, h]
    exact ⟨rfl, rfl, rfl, rfl⟩

/-- Settles O31: the halts past and below their limits, the pulses counted by the motor, and a fault by the dispense's state. -/
theorem transportHalts : Obligations.TransportHalts := by
  unfold Obligations.TransportHalts
  refine ⟨?_, ?_, fun cas nominal => ⟨rfl, fun k => rfl, rfl⟩, motor_iff, fun n path => ⟨?_, ntgAdvance_standing⟩, ?_,
    fun s => ⟨faultReport_working, ?_, ?_, dspFault_unmoved, dspFault_reserving, dspFault_purging, dspFault_running⟩⟩
  · intro s c path cause n hn hm h
    rw [halting_acts hn hm h]
    have hstate : n.state = s.ntg.state := hn ▸ ntgAdvance_state s.ntg path
    refine ⟨fun hp => ?_, fun hp hl hd hr => ?_⟩
    · rw [transportHalt_jam cause (by simpa [hstate] using hp)]
      rfl
    · rw [transportHalt, if_pos (hstate.trans hp), purgeHalt_fails (s := { begun s with ntg := n }) cause hd hr]
      simp [begun, hl, ntgHalt]
  · intro s path n hn
    obtain ⟨hheld, hlong, hmissed, hoff⟩ := halting_ignored s path n hn
    refine ⟨fun h => hheld ?_, fun h => hlong ?_, fun h => hmissed ?_, hoff⟩
    · rw [← Bool.not_eq_true, exitHeld_iff]
      rintro ⟨m, hm, hle⟩
      exact absurd (h m hm) (Nat.not_lt.2 hle)
    · rw [← Bool.not_eq_true, longAtGauge_iff]
      rintro ⟨he, r, m, hr, hm, hle⟩
      rcases h with h | h | ⟨r', m', hr', hm', hlt⟩
      · rw [hn, ntgAdvance_edge, h] at he
        cases he
      · rw [h] at hr
        cases hr
      · cases hr'.symm.trans hr
        cases hm'.symm.trans hm
        exact absurd hlt (Nat.not_lt.2 hle)
    · rw [← Bool.not_eq_true, exitMissed_iff]
      rintro ⟨r, hr, hs, m, hm, hle⟩
      exact absurd (h r hr hs m hm) (Nat.not_lt.2 hle)
  · intro h
    rw [ntgAdvance_driven h]
    rfl
  · intro n path h
    rw [ntgAdvance_driven h]
    refine ⟨fun m hm hc => ?_, fun m hm hc => ?_, advanceExit_cleared _ _, advanceExit_cleared _ _⟩
    · simp only [hm, hc, advanceExit_covered]
    · simp only [hm, hc, advanceExit_covered]
  · intro h
    rw [faultReport, h]
  · intro h
    rw [faultReport, h]

end Sys2Proof.Machine
end

section
/-!
PROOF. The baseline gate, and how an entry of the pick list becomes ACTIVE.
-/

namespace Sys2Proof.Machine

open Sys2Proof

theorem CasState.eligible_iff (c : CasState) : c.eligible = true ↔ c = .ok ∨ c = .low := by
  cases c <;> simp [CasState.eligible]

/-! ### Orders (R25) -/

section

variable {n : Ntg} (o : PickOrder)

theorem ntgOrder_taken (h : n.state = .feeding ∨ n.state = .draining ∨ (n.state = .idle ∧ n.valid = true)) :
    ntgOrder o n = ({ n with state := .feeding, order := some o }, false) := by
  rcases h with h | h | ⟨h, hv⟩ <;> simp [ntgOrder, *]

theorem ntgOrder_refused (h : (n.state = .idle ∧ n.valid = false) ∨ n.state = .purge ∨ n.state = .halted) :
    ntgOrder o n = (n, true) := by
  rcases h with ⟨h, hv⟩ | h | h <;> simp [ntgOrder, *]

end

/-! ### The entry that becomes ACTIVE (R49, R55, R56, R59) -/

section

variable {s a : State} {e : Entry}

theorem dspActivate_none (h : entryIn .pending s.dsp.pickList = none) : dspActivate s = s := by
  rw [dspActivate, h]

theorem dspActivate_orders (he : entryIn .pending s.dsp.pickList = some e)
    (ha : a = { s with dsp.pickList := changeEntry .pending (fun e => { e with state := .active }) s.dsp.pickList })
    (hk : e.kind = .pick) (hc : (s.cas.get e.slot).state.eligible = true) :
    dspActivate s = if (ntgOrder (orderOf e s.dsp.stackerCount) s.ntg).2
      then dspEndByPurge .gaugeFault { a with ntg := (ntgOrder (orderOf e s.dsp.stackerCount) s.ntg).1 }
      else { a with ntg := (ntgOrder (orderOf e s.dsp.stackerCount) s.ntg).1 } := by
  subst ha
  simp only [dspActivate, he, hk, hc, if_true]

theorem dspActivate_suspends (he : entryIn .pending s.dsp.pickList = some e)
    (ha : a = { s with dsp.pickList := changeEntry .pending (fun e => { e with state := .active }) s.dsp.pickList })
    (hk : e.kind = .pick) (hc : (s.cas.get e.slot).state.eligible = false) :
    dspActivate s = dspSuspend { a with ntg := (ntgWithdraw s.ntg).1 } := by
  subst ha
  simp only [dspActivate, he, hk, hc, Bool.false_eq_true, if_false]

theorem dspActivate_presents (he : entryIn .pending s.dsp.pickList = some e)
    (ha : a = { s with dsp.pickList := changeEntry .pending (fun e => { e with state := .active }) s.dsp.pickList })
    (hk : e.kind ≠ .pick) :
    dspActivate s = postNotes (notesRequest s.dsp (decide (e.kind = .presentFinal)))
      { a with ntg := (ntgWithdraw s.ntg).1, dsp.state := .stacked } := by
  subst ha
  cases h : e.kind with
  | pick => exact absurd h hk
  | present => simp only [dspActivate, he, h]; rfl
  | presentFinal => simp only [dspActivate, he, h]; rfl

end

/-! ### The gate (R23, R24, R51) -/

theorem baselineOk_iff (c0 : Nat) : baselineOk c0 = true ↔ 256 ≤ c0 ∧ c0 ≤ 65534 := by
  simp [baselineOk]

theorem baselineGateClosed_eq (s : State) (path : PathCount) (cyclesL cyclesR : Nat) :
    exec (.baselineGateClosed path cyclesL cyclesR) s
      = .next (when ((ntgAdvance path s.ntg).state = .baseline
            && decide (16 + (ntgAdvance path s.ntg).gateLength ≤ (ntgAdvance path s.ntg).sinceStart))
          (fun t => settle (closeBaseline cyclesL cyclesR t)) { begun s with ntg := ntgAdvance path s.ntg }) := rfl

theorem baselineGateClosed_acts {s : State} {path : PathCount} (cyclesL cyclesR : Nat) (hs : s.ntg.state = .baseline)
    (hg : 16 + s.ntg.gateLength ≤ s.ntg.sinceStart + path.pulses) : exec (.baselineGateClosed path cyclesL cyclesR) s
      = .next (settle (closeBaseline cyclesL cyclesR { begun s with ntg := ntgAdvance path s.ntg })) := by
  have hgate : 16 + (ntgAdvance path s.ntg).gateLength ≤ (ntgAdvance path s.ntg).sinceStart := by
    rw [ntgAdvance_driven ((motor_iff _).2 (.inl hs))]
    exact hg
  rw [baselineGateClosed_eq, (ntgAdvance_state _ _).trans hs, decide_eq_true hgate]
  rfl

section

variable {t : State} {cyclesL cyclesR : Nat} (hd : t.dsp.state = .baseline)

include hd

theorem closeBaseline_valid (hl : baselineOk (gaugeCount cyclesL) = true) (hr : baselineOk (gaugeCount cyclesR) = true) :
    closeBaseline cyclesL cyclesR t = dspActivate { t with
      ntg := { t.ntg with c0L := gaugeCount cyclesL, c0R := gaugeCount cyclesR, valid := true, state := .feeding },
      dsp.state := .picking } := by
  simp [closeBaseline, hl, hr, dspBaseline, hd]

theorem closeBaseline_invalid (h : (baselineOk (gaugeCount cyclesL) && baselineOk (gaugeCount cyclesR)) = false) :
    closeBaseline cyclesL cyclesR t = dspEndByPurge .gaugeFault { t with
      ntg := { t.ntg with
        c0L := gaugeCount cyclesL, c0R := gaugeCount cyclesR, valid := false, state := .idle, order := none } } := by
  simp only [closeBaseline, h]
  simp [dspBaseline, hd]

end

/-- Settles O32: the gate by its two counts, and the first PENDING entry by its kind, its slot and the transport's state. -/
theorem baselineGate : Obligations.BaselineGate := by
  unfold Obligations.BaselineGate
  refine ⟨?_, fun s => ⟨dspActivate_none, ?_⟩⟩
  · rintro s path cyclesL cyclesR l r n rfl hs hg rfl rfl hd
    have hd' : ({ begun s with ntg := ntgAdvance path s.ntg } : State).dsp.state = .baseline := hd
    refine ⟨fun hl hl' hr hr' => ?_, fun h => ?_⟩
    · rw [baselineGateClosed_acts cyclesL cyclesR hs hg,
        closeBaseline_valid hd' ((baselineOk_iff _).2 ⟨hl, hl'⟩) ((baselineOk_iff _).2 ⟨hr, hr'⟩)]
      rfl
    · have hbad : (baselineOk (gaugeCount cyclesL) && baselineOk (gaugeCount cyclesR)) = false := by
        rw [← Bool.not_eq_true, Bool.and_eq_true, baselineOk_iff, baselineOk_iff, gaugeCount, gaugeCount]
        omega
      rw [baselineGateClosed_acts cyclesL cyclesR hs hg, closeBaseline_invalid hd' hbad]
      rfl
  · rintro e a order he ha rfl
    refine ⟨fun hk hc => ?_, fun hk hok hlow => ?_, fun hk => ?_⟩
    · have horders := dspActivate_orders he ha hk ((CasState.eligible_iff _).2 hc)
      refine ⟨fun h => ?_, fun h => ?_⟩
      · rw [horders, ntgOrder_taken _ h, ha]
        rfl
      · rw [horders, ntgOrder_refused _ h, ha]
        rfl
    · have hc : (s.cas.get e.slot).state.eligible = false := by
        rw [← Bool.not_eq_true, CasState.eligible_iff]
        exact fun h => h.elim hok hlow
      rw [dspActivate_suspends he ha hk hc]
      rfl
    · rw [dspActivate_presents he ha hk]
      rfl

end Sys2Proof.Machine
end

section
/-!
PROOF. When the path is clear, the ends of the purge run and of a suspension, and what a clear transport means to the dispense.
-/

namespace Sys2Proof.Machine

open Sys2Proof

/-! ### A clear path (R41) -/

section

variable {n : Ntg} {path : PathCount}

theorem pathClearFor_occupied (h : n.records ≠ [] ∨ n.edge = true) : pathClearFor path n = 0 := by
  have hn : (n.records.isEmpty && !n.edge) = false := by rcases h with h | h <;> simp [h]
  rw [pathClearFor, hn, if_neg Bool.false_ne_true]

theorem pathClearFor_free (hr : n.records = []) (he : n.edge = false) :
    pathClearFor path n = min (exitClearFor path.pulses n.clearFor path.clearedS n.exitS)
      (exitClearFor path.pulses n.clearFor path.clearedR n.exitR) := by
  rw [pathClearFor, hr, he]
  rfl

theorem exitClearFor_covered (pulses before : Nat) {mark : Option Nat} (h : mark ≠ none) :
    exitClearFor pulses before none mark = 0 := by
  obtain ⟨m, rfl⟩ := Option.ne_none_iff_exists'.1 h
  rfl

/-- A sensor that is covered at either exit leaves the path not clear. -/
theorem pathClearFor_blocked (h : (n.exitS ≠ none ∧ path.clearedS = none) ∨ (n.exitR ≠ none ∧ path.clearedR = none)) :
    pathClearFor path n = 0 := by
  unfold pathClearFor
  split
  · rcases h with ⟨hm, hc⟩ | ⟨hm, hc⟩
    · rw [hc, exitClearFor_covered _ _ hm, Nat.zero_min]
    · rw [hc, exitClearFor_covered _ _ hm, Nat.min_zero]
  · rfl

end

/-! ### A clear transport (R59, R64) -/

section

variable {s : State}

theorem dspOnClear_ends (hp : s.dsp.state = .purging) (hd : s.dsp.dispensing = true) : dspOnClear s = finishPurge s :=
  if_pos ⟨hp, hd⟩

/-- While a withdrawal waits, an entry that is not DONE suspends the dispense, and else the next one becomes ACTIVE. -/
theorem dspOnClear_waited (hp : s.dsp.state = .picking) (hw : s.dsp.withdrawPending = true) :
    (∀ e, entryIn .active s.dsp.pickList = some e →
      dspOnClear s = dspSuspend { s with dsp.withdrawPending := false }) ∧
    (entryIn .active s.dsp.pickList = none → dspOnClear s = dspActivate { s with dsp.withdrawPending := false }) := by
  constructor
  · intro e he
    simp [dspOnClear, hp, hw, he]
  · intro he
    simp [dspOnClear, hp, hw, he]

theorem dspOnClear_unmoved (h : s.dsp.state ≠ .purging ∨ s.dsp.dispensing = false)
    (h' : s.dsp.state ≠ .picking ∨ s.dsp.withdrawPending = false) : dspOnClear s = s := by
  have hn : ¬ (s.dsp.state = .purging ∧ s.dsp.dispensing = true) := fun ⟨hp, hd⟩ => h.elim (· hp) (by simp [hd])
  have hn' : ¬ (s.dsp.state = .picking ∧ s.dsp.withdrawPending = true) := fun ⟨hp, hw⟩ => h'.elim (· hp) (by simp [hw])
  rw [dspOnClear, if_neg hn, if_neg hn']

end

/-! ### The end of the purge run (R41, R183) -/

theorem purgeDone_eq (s : State) (path : PathCount) : exec (.purgeDone path) s
    = .next (when ((ntgAdvance path s.ntg).state = .purge && decide (400 ≤ (ntgAdvance path s.ntg).clearFor))
        (fun t => settle (purgeDone t)) { begun s with ntg := ntgAdvance path s.ntg }) := rfl

/-- The dispense engine of a purge that ends is IDLE; the lane goes on once the pocket survey has reported. -/
theorem purgeDone_of_purging {t : State} (hd : t.dsp.state = .purging) (hr : t.dsp.dispensing = false) :
    purgeDone t = purgeCheck { t with ntg.state := .idle, lsv.transportDone := true, dsp.state := .idle } := by
  simp [purgeDone, hd, hr]

theorem suspendTimeout_eq (s : State) : exec .suspendTimeout s
    = .next (when (s.dsp.state = .suspended && s.dsp.suspendTimer.isSome)
        (fun t => settle (dspEndByPurge .suspendTimeout t)) (begun s)) := rfl

theorem suspendTimeout_acts {s : State} {ms : Nat} (hs : s.dsp.state = .suspended) (ht : s.dsp.suspendTimer = some ms) :
    exec .suspendTimeout s = .next (settle (dspEndByPurge .suspendTimeout (begun s))) := by
  rw [suspendTimeout_eq, hs, ht]
  rfl

/-- Settles O36: the run ends on 400 clear pulses, which the path counts as R41 says, and a clear transport by the dispense. -/
theorem purgeAndSuspendEnd : Obligations.PurgeAndSuspendEnd := by
  unfold Obligations.PurgeAndSuspendEnd
  refine ⟨?_, fun n path hm => ⟨?_, fun hr he => ⟨?_, ?_, ?_⟩⟩, fun s => ⟨fun ms => suspendTimeout_acts, dspOnClear_ends,
    fun hp hw => ?_, fun h h' => dspOnClear_unmoved h h'⟩⟩
  · rintro s path n rfl hs
    have hstate : (ntgAdvance path s.ntg).state = .purge := (ntgAdvance_state _ _).trans hs
    rw [purgeDone_eq, hstate]
    refine ⟨fun hclear hlane hd hr => ?_, fun hclear => ?_⟩
    · have hdone := purgeDone_of_purging (t := { begun s with ntg := ntgAdvance path s.ntg }) hd hr
      simp only [hclear, decide_true, Bool.and_self, when_true, hdone]
      refine ⟨fun hstage => ?_, fun hstage => ?_⟩
      · rw [purgeCheck, if_pos ⟨hlane, hstage, rfl⟩]
        rfl
      · rw [purgeCheck, if_neg fun h => hstage h.2.1]
    · simp only [Nat.not_le.2 hclear, decide_false, Bool.and_false, when_false]
  · rw [ntgAdvance_driven hm]
    rintro (h | h | h)
    · exact pathClearFor_occupied (.inl h)
    · exact pathClearFor_occupied (.inr h)
    · exact pathClearFor_blocked h
  · intro hS hR
    rw [ntgAdvance_driven hm]
    simp only [pathClearFor_free hr he, hS, hR, exitClearFor, Nat.min_self]
  · intro m since hS hR hc
    rw [ntgAdvance_driven hm]
    simp only [pathClearFor_free hr he, hS, hR, hc, exitClearFor]
  · intro m since hR hS hc
    rw [ntgAdvance_driven hm]
    simp only [pathClearFor_free hr he, hS, hR, hc, exitClearFor]
  · obtain ⟨hactive, hnone⟩ := dspOnClear_waited hp hw
    exact ⟨hactive, hnone⟩

end Sys2Proof.Machine
end

section
/-!
PROOF. The hand-over at the exits: what an arrival takes from the records, counts into stacker and reject bin, and where it halts the
transport.
-/

namespace Sys2Proof.Machine

open Sys2Proof

/-! ### The picked counts and the pick list (R52, R53) -/

/-- A picked count that is told slot by slot is the one the hand-over makes. -/
theorem addPicked_picked {slot : Option Slot} {n : Nat} {d : Dsp} {picked : Four Nat} (hnone : slot = none → picked = d.picked)
    (hsome : ∀ k, slot = some k → picked = d.picked.set k (d.picked.get k + n)) : (addPicked slot n d).picked = picked := by
  cases slot with
  | none => exact (hnone rfl).symm
  | some k => exact (hsome k rfl).symm

/-- A change of the first entry of a state is what it makes of that one entry. -/
theorem changeEntry_congr {st : EntryState} {f g : Entry → Entry} :
    ∀ {l : List Entry}, (∀ e, entryIn st l = some e → f e = g e) → changeEntry st f l = changeEntry st g l
  | [], _ => rfl
  | x :: rest, h => by
    simp only [changeEntry]
    split
    next hx => rw [h x (by simp [entryIn, hx])]
    next hx => rw [changeEntry_congr fun e he => h e (by simpa [entryIn, hx] using he)]

theorem changeEntry_id (st : EntryState) : ∀ l : List Entry, changeEntry st id l = l
  | [] => rfl
  | x :: rest => by
    simp only [changeEntry, id, changeEntry_id st rest, ite_self]

/-- A note counted for a PICK entry: one more is done, and the last one makes the entry DONE (R52). -/
theorem changeEntry_countDone {l : List Entry} {e : Entry} (he : entryIn .active l = some e) (hk : e.kind = .pick) :
    (e.done + 1 ≠ e.wanted → changeEntry .active countDone l
      = changeEntry .active (fun e => { e with done := e.done + 1 }) l) ∧
    (e.done + 1 = e.wanted → changeEntry .active countDone l
      = changeEntry .active (fun e => { e with done := e.done + 1, state := .done }) l) := by
  constructor <;> intro hw <;> refine changeEntry_congr fun e' he' => ?_ <;> cases he.symm.trans he' <;>
    simp [countDone, hk, hw]

/-! ### An ACCEPT in the stacker (R52) -/

section

variable {s b : State} {object : Routed} {value : Nat} {picked : Four Nat}

/-- The ACTIVE entry is a PICK that has its last note. -/
def lastOfEntry (l : List Entry) : Bool :=
  (entryIn .active l).any (fun e => e.kind = .pick && e.done + 1 = e.wanted)

theorem dspStacked_eq (hv : denominationOf s.cas object.slot = value) (hp : (addPicked object.slot 1 s.dsp).picked = picked)
    (hb : b = { s with
      dsp.stackerCount := s.dsp.stackerCount + 1, dsp.delivered := s.dsp.delivered + value,
      dsp.inStacker := s.dsp.inStacker + value, dsp.picked := picked }) :
    dspStacked object s
      = if lastOfEntry s.dsp.pickList = true ∧ s.dsp.state = .picking ∧ s.dsp.withdrawPending = false
        then dspActivate { b with dsp.pickList := changeEntry .active countDone s.dsp.pickList }
        else { b with dsp.pickList := changeEntry .active countDone s.dsp.pickList } := by
  subst hv hp hb
  unfold dspStacked lastOfEntry
  cases entryIn .active s.dsp.pickList <;> cases object.slot <;> rfl

theorem dspStacked_plain (hv : denominationOf s.cas object.slot = value)
    (hp : (addPicked object.slot 1 s.dsp).picked = picked)
    (hb : b = { s with
      dsp.stackerCount := s.dsp.stackerCount + 1, dsp.delivered := s.dsp.delivered + value,
      dsp.inStacker := s.dsp.inStacker + value, dsp.picked := picked })
    (h : ∀ e, entryIn .active s.dsp.pickList = some e → e.kind ≠ .pick) : dspStacked object s = b := by
  have hlast : lastOfEntry s.dsp.pickList = false := by
    rw [← Bool.not_eq_true, lastOfEntry, Option.any_eq_true]
    rintro ⟨e, he, hpick⟩
    simp [h e he] at hpick
  have hlist : changeEntry .active countDone s.dsp.pickList = s.dsp.pickList :=
    (changeEntry_congr fun e he => if_neg (h e he)).trans (changeEntry_id .active _)
  rw [dspStacked_eq hv hp hb, hlast, if_neg (by simp), hlist, hb]

theorem dspStacked_entry {e : Entry} (hv : denominationOf s.cas object.slot = value)
    (hp : (addPicked object.slot 1 s.dsp).picked = picked)
    (hb : b = { s with
      dsp.stackerCount := s.dsp.stackerCount + 1, dsp.delivered := s.dsp.delivered + value,
      dsp.inStacker := s.dsp.inStacker + value, dsp.picked := picked })
    (he : entryIn .active s.dsp.pickList = some e) (hk : e.kind = .pick) :
    (e.done + 1 ≠ e.wanted → dspStacked object s = { b with
      dsp.pickList := changeEntry .active (fun e => { e with done := e.done + 1 }) s.dsp.pickList }) ∧
    (e.done + 1 = e.wanted → ∀ finished, finished = { b with
        dsp.pickList := changeEntry .active (fun e => { e with done := e.done + 1, state := .done }) s.dsp.pickList } →
      (s.dsp.state = .picking → s.dsp.withdrawPending = false → dspStacked object s = dspActivate finished) ∧
      (s.dsp.state ≠ .picking ∨ s.dsp.withdrawPending = true → dspStacked object s = finished)) := by
  have hlast : lastOfEntry s.dsp.pickList = decide (e.done + 1 = e.wanted) := by simp [lastOfEntry, he, hk]
  obtain ⟨hmore, hdone⟩ := changeEntry_countDone he hk
  rw [dspStacked_eq hv hp hb, hlast]
  refine ⟨fun hw => ?_, fun hw finished hf => ⟨fun hs hn => ?_, fun h => ?_⟩⟩
  · rw [if_neg (by simp [hw]), hmore hw]
  · rw [if_pos ⟨decide_eq_true hw, hs, hn⟩, hf, hdone hw]
  · have hn : ¬ (s.dsp.state = .picking ∧ s.dsp.withdrawPending = false) := fun ⟨hs, hn⟩ => h.elim (· hs) (by simp [hn])
    rw [if_neg fun h => hn h.2, hf, hdone hw]

end

/-! ### A reject (R53) -/

theorem dspRejected_eq {s b : State} {object : Routed} {picked : Four Nat}
    (hp : (addPicked object.slot object.estimate s.dsp).picked = picked)
    (hb : b = { s with
      dsp.rejectCount := min s.dsp.rejectCap (s.dsp.rejectCount + object.estimate),
      dsp.overflow := s.dsp.overflow || decide (s.dsp.rejectCap < s.dsp.rejectCount + object.estimate),
      dsp.rejected := s.dsp.rejected + object.estimate, dsp.picked := picked }) :
    dspRejected object s = if s.dsp.state = .picking then
        if s.dsp.rejectEvents < 12 then { b with dsp.rejectEvents := s.dsp.rejectEvents + 1 }
        else dspEndByPurge .tooManyRejects b
      else b := by
  subst hp hb
  unfold dspRejected
  cases object.slot <;> rfl

/-! ### Arrivals outside a purge run (R37, R39, R54) -/

theorem exitArrival_eq (s : State) (path : PathCount) (side : Side) : exec (.exitArrival path side) s
    = .next (if s.ntg.state.carries then
          settle (exitNote side { begun s with ntg := coverExit side (ntgAdvance path s.ntg) })
        else if s.ntg.state = .purge then
          settle (exitPurge side { begun s with ntg := coverExit side (ntgAdvance path s.ntg) })
        else { begun s with ntg := coverExit side (ntgAdvance path s.ntg) }) := by
  have hs : (coverExit side (ntgAdvance path s.ntg)).state = s.ntg.state := by rw [coverExit_state, ntgAdvance_state]
  rw [← hs]
  rfl

section

variable {s : State} {path : PathCount} {side : Side}

theorem exitArrival_carried (h : s.ntg.state = .feeding ∨ s.ntg.state = .draining) : exec (.exitArrival path side) s
    = .next (settle (exitNote side { begun s with ntg := coverExit side (ntgAdvance path s.ntg) })) := by
  rcases h with h | h <;> rw [exitArrival_eq, h] <;> rfl

theorem exitArrival_purge (h : s.ntg.state = .purge) : exec (.exitArrival path side) s
    = .next (settle (exitPurge side { begun s with ntg := coverExit side (ntgAdvance path s.ntg) })) := by
  rw [exitArrival_eq, h]
  rfl

theorem exitArrival_standing (h : s.ntg.state = .idle ∨ s.ntg.state = .baseline ∨ s.ntg.state = .halted) :
    exec (.exitArrival path side) s = .next { begun s with ntg := coverExit side (ntgAdvance path s.ntg) } := by
  rcases h with h | h | h <;> rw [exitArrival_eq, h] <;> rfl

end

@[simp] theorem ntgAdvance_purged (path : PathCount) (n : Ntg) : (ntgAdvance path n).purged = n.purged := by
  unfold ntgAdvance; split <;> rfl

theorem exitNote_none {t : State} (h : firstOf .pastGauge t.ntg.records = none) (side : Side) : exitNote side t = t := by
  rw [exitNote, h]

theorem exitNote_some {t : State} {r : ObjRec} (h : firstOf .pastGauge t.ntg.records = some r) (side : Side) :
    exitNote side t = (if r.route ≠ some .stacker ∧ side = .stacker then ntgJam .divertFault else checkDrained)
      (dspHandOver (routedOf r side) { t with ntg.records := removeFirst .pastGauge t.ntg.records }) := by
  simp only [exitNote, h]
  split <;> rfl

/-- What is handed over, by route and exit (R37). -/
theorem routedOf_cases (r : ObjRec) :
    (r.route = some .stacker → r.outcome = some .accept → routedOf r .stacker
      = { slot := r.slot, outcome := .accept, reason := r.reason, estimate := r.estimate.getD 1, exit := .stacker }) ∧
    (r.route = some .stacker → routedOf r .reject
      = { slot := r.slot, outcome := .reject, reason := some .diverted, estimate := 1, exit := .reject }) ∧
    (r.route = some .reject → r.outcome = some .reject → ∀ side, routedOf r side
      = { slot := r.slot, outcome := .reject, reason := r.reason, estimate := r.estimate.getD 1, exit := side }) := by
  refine ⟨fun hr ho => ?_, fun hr => ?_, fun hr ho side => ?_⟩
  · simp [routedOf, ho]
  · simp [routedOf, hr]
  · simp [routedOf, hr, ho]

/-! ### Arrivals in a purge run (R40, R41) -/

theorem purgedOf_estimate (r : Option ObjRec) : (purgedOf r).estimate = (r.bind (fun r => r.estimate)).getD 1 := by
  cases r <;> rfl

/-- An addition that the capacity does not cut leaves the overflow flag. -/
theorem addReject_within {notes : Nat} {d : Dsp} (h : d.rejectCount + notes ≤ d.rejectCap) :
    addReject notes d = { d with rejectCount := min d.rejectCap (d.rejectCount + notes) } := by
  simp [addReject, Nat.not_lt.2 h]

theorem addReject_cut {notes : Nat} {d : Dsp} (h : d.rejectCap < d.rejectCount + notes) :
    addReject notes d = { d with rejectCount := min d.rejectCap (d.rejectCount + notes), overflow := true } := by
  simp [addReject, h]

section

variable {t counted : State} {estimate : Nat}
  (he : estimate = ((firstOf .pastGauge t.ntg.records).bind (fun r => r.estimate)).getD 1)
  (hc : counted = { t with
    ntg.records := removeFirst .pastGauge t.ntg.records, ntg.purged := t.ntg.purged + 1,
    dsp.rejectCount := min t.dsp.rejectCap (t.dsp.rejectCount + estimate) })

include he hc

/-- An object that the reject bin holds is counted and no more. -/
theorem exitPurge_within (h : t.dsp.rejectCount + estimate ≤ t.dsp.rejectCap) : exitPurge .reject t = counted := by
  subst hc
  rw [← purgedOf_estimate] at he
  subst he
  rw [exitPurge, purgeHandOver, if_neg (Nat.not_lt.2 h), addReject_within h]

/-- One that it cuts short stops the run. -/
theorem exitPurge_cut (hd : t.dsp.state = .purging) (hr : t.dsp.dispensing = false)
    (h : t.dsp.rejectCap < t.dsp.rejectCount + estimate) : exitPurge .reject t = { counted with
      dsp.overflow := true, dsp.state := .fault, lsv.lane := if t.lsv.lane = .purging then .fault else t.lsv.lane,
      ntg.state := .halted, ntg.cause := .purgeStopped, ntg.order := none } := by
  have hhalt := purgeHalt_fails (s := { counted with dsp.overflow := true }) .purgeStopped (by rw [hc]; exact hd)
    (by rw [hc]; exact hr)
  rw [hc] at hhalt ⊢
  rw [← purgedOf_estimate] at he
  subst he
  rw [exitPurge, purgeHandOver, if_pos h, addReject_cut h]
  exact hhalt

end

/-- Settles O35: the arrival by the transport's state, the hand-over by route and exit, and the counts it makes. -/
theorem exitArrivals : Obligations.ExitArrivals := by
  unfold Obligations.ExitArrivals
  refine ⟨?_, ?_, fun stage r rest => ⟨rfl, rfl⟩, fun d n => ⟨rfl, fun k => rfl⟩, ?_, ?_⟩
  · rintro s path a r rest rfl hr rfl stacker reject rfl rfl hs
    obtain ⟨haccept, hdiverted, hreject⟩ := routedOf_cases r
    refine ⟨fun hroute ho => ?_, fun hroute => ?_, fun hroute ho => ?_, fun hroute ho => ?_⟩
    · rw [exitArrival_carried hs, exitNote_some hr, if_neg (by simp [hroute]), haccept hroute ho]
      rfl
    · rw [exitArrival_carried hs, exitNote_some hr, if_neg (by simp), hdiverted hroute]
      rfl
    · rw [exitArrival_carried hs, exitNote_some hr, if_neg (by simp), hreject hroute ho]
      rfl
    · rw [exitArrival_carried hs, exitNote_some hr, if_pos (by simp [hroute]), hreject hroute ho]
      rfl
  · rintro s path a stacker reject rfl rfl rfl
    refine ⟨fun hs hr => ⟨?_, ?_⟩, fun hs => ⟨exitArrival_standing hs, exitArrival_standing hs⟩, ?_⟩
    · rw [exitArrival_carried hs, exitNote_none hr]
      rfl
    · rw [exitArrival_carried hs, exitNote_none hr]
      rfl
    · rintro hs lane estimate counted rfl hestimate rfl
      have hcounted := ntgAdvance_purged path s.ntg
      refine ⟨fun h => ?_, fun hd hr => ⟨fun h => ?_, ?_⟩⟩
      · have hwithin := exitPurge_within (t := { begun s with ntg := { ntgAdvance path s.ntg with exitR := some 0 } })
          hestimate rfl h
        rw [exitArrival_purge hs, coverExit_reject, hwithin, ← hcounted]
        rfl
      · have hcut := exitPurge_cut (t := { begun s with ntg := { ntgAdvance path s.ntg with exitR := some 0 } })
          hestimate rfl hd hr h
        rw [exitArrival_purge hs, coverExit_reject, hcut, ← hcounted]
        rfl
      · have hhalt := purgeHalt_fails (s := { begun s with ntg := { ntgAdvance path s.ntg with exitS := some 0 } })
          .divertFault hd hr
        rw [exitArrival_purge hs, coverExit_stacker, exitPurge, hhalt]
        rfl
  · rintro s b object value picked hnone hsome hb
    have hv : denominationOf s.cas object.slot = value := by
      cases hk : object.slot with
      | none => exact (hnone hk).1.symm
      | some k => exact (hsome k hk).1.symm
    have hp := addPicked_picked (n := 1) (fun h => (hnone h).2) (fun k h => (hsome k h).2)
    exact ⟨dspStacked_plain hv hp hb, fun e => dspStacked_entry hv hp hb⟩
  · rintro s b object picked hnone hsome hb
    rw [dspRejected_eq (addPicked_picked hnone hsome) hb]
    refine ⟨fun hs => if_neg hs, fun hs => ⟨fun he => ?_, fun he => ?_⟩⟩
    · rw [if_pos hs, if_pos he]
    · rw [if_pos hs, if_neg (Nat.not_lt.2 he)]

end Sys2Proof.Machine
end

section
/-!
PROOF. The own RESERVE's completion: the check of the wall limit, and what the dispense makes of it.
-/

namespace Sys2Proof.Machine

open Sys2Proof

/-! ### The check (R138) -/

section

variable {amount : Nat} {s b : State} (hb : b = setOwnExposure amount s)

include hb

theorem reserveCheck_passes (h : b.pt.wallLimit = 0 ∨ exposureSum b.pt.peers ≤ b.pt.wallLimit) :
    reserveCheck amount s = (b, true) := by
  subst hb
  exact if_pos h

theorem reserveCheck_fails (h : b.pt.wallLimit ≠ 0) (h' : b.pt.wallLimit < exposureSum b.pt.peers) :
    reserveCheck amount s = (setOwnExposure 0 b, false) := by
  subst hb
  exact if_neg fun hp => hp.elim h (Nat.not_le.2 h')

end

/-! ### What the dispense makes of it (R23, R50, R63) -/

section

variable {s : State}

theorem dspReserved_recorded {r : EndReason} (o : ReserveOutcome) (hs : s.dsp.state = .reserving)
    (hr : s.dsp.pendingEnd = some r) :
    dspReserved o s = dspEnd r (afterEnd r) { s with dsp.reservation := .sent } := by
  simp [dspReserved, hs, hr]

theorem dspReserved_passed (hs : s.dsp.state = .reserving) (hr : s.dsp.pendingEnd = none) :
    dspReserved .passed s = askBaseline { s with dsp.reservation := .sent } := by
  simp [dspReserved, hs, hr]

theorem dspReserved_failed (hs : s.dsp.state = .reserving) (hr : s.dsp.pendingEnd = none) :
    dspReserved .failed s = dspEnd .wallLimit .idle { s with dsp.reservation := .sent } := by
  simp [dspReserved, hs, hr]

theorem askBaseline_started (hs : s.ntg.state = .idle) (he : s.ntg.edge = false) :
    askBaseline s = { s with
      dsp.state := .baseline, ntg.state := .baseline, ntg.valid := false, ntg.order := none, ntg.sinceStart := 0 } := by
  simp [askBaseline, ntgBaseline, hs, he]

theorem askBaseline_stray (hs : s.ntg.state = .idle) (he : s.ntg.edge = true) :
    askBaseline s = ntgJam .strayObject { s with dsp.state := .baseline } := by
  simp [askBaseline, ntgBaseline, hs, he]

theorem askBaseline_refused (hs : s.ntg.state ≠ .idle) : askBaseline s = dspEndByPurge .gaugeFault s := by
  simp [askBaseline, ntgBaseline, hs]

/-- A restart held for the RESERVE goes on with its later acts (R186). -/
theorem reserveOutcome_free (o : ReserveOutcome) (h : s.lsv.heldRestarts = []) : reserveOutcome o s = dspReserved o s := by
  simp [reserveOutcome, h]

theorem reserveOutcome_held (o : ReserveOutcome) (h : s.lsv.heldRestarts ≠ []) :
    reserveOutcome o s = restartTail (dspReserved o s) := by
  simp [reserveOutcome, h]

end

theorem ownReserveCompleted_acts {s : State} {a : Attempt} {amount : Nat} (heard : Bool) (ha : s.biu.attempt = some a)
    (hi : a.item = .wall (.reserve amount)) : exec (.ownReserveCompleted heard) s
      = .next (settle (ownReserveDone amount (attemptCompleted heard (begun s)))) := by
  have hb : (begun s).biu.attempt = some a := ha
  have hsending : (begun s).reserveSending = true := by simp [State.reserveSending, State.sending, hb, hi]
  simp [exec, execOwnReserveCompleted, act_eq, hsending, completeAttempt, hb, hi]

theorem ownReserveDone_passed {amount : Nat} {s b : State} (hb : b = setOwnExposure amount (dropWall (.reserve amount) s))
    (h : b.pt.wallLimit = 0 ∨ exposureSum b.pt.peers ≤ b.pt.wallLimit) :
    ownReserveDone amount s = reserveOutcome .passed b := by
  rw [ownReserveDone, reserveCheck_passes hb h]
  rfl

theorem ownReserveDone_failed {amount : Nat} {s b : State} (hb : b = setOwnExposure amount (dropWall (.reserve amount) s))
    (h : b.pt.wallLimit ≠ 0) (h' : b.pt.wallLimit < exposureSum b.pt.peers) :
    ownReserveDone amount s = reserveOutcome .failed (setOwnExposure 0 b) := by
  rw [ownReserveDone, reserveCheck_fails hb h h']
  rfl

/-- Settles O10: the check by the sum and the limit, the dispense by the recorded reason and the transport. -/
theorem reservationCheck : Obligations.ReservationCheck := by
  unfold Obligations.ReservationCheck
  refine ⟨?_, rfl, rfl, fun r hj hr => ?_⟩
  · intro s b a amount heard ha hi hs hb
    have hdone : b = setOwnExposure amount (dropWall (.reserve amount) (attemptCompleted heard (begun s))) := hb
    have hlimit : b.pt.wallLimit = s.pt.wallLimit := by rw [hb]; rfl
    have hdsp : b.dsp = s.dsp := by rw [hb]; rfl
    have hntg : b.ntg = s.ntg := by rw [hb]; rfl
    have hlsv : b.lsv = s.lsv := by rw [hb]; rfl
    have hs' : b.dsp.state = .reserving := hdsp ▸ hs
    have hpassed : s.pt.wallLimit = 0 ∨ exposureSum b.pt.peers ≤ s.pt.wallLimit →
        exec (.ownReserveCompleted heard) s = .next (settle (reserveOutcome .passed b)) := fun h => by
      rw [ownReserveCompleted_acts heard ha hi, ownReserveDone_passed hdone (hlimit ▸ h)]
    have hfailed : s.pt.wallLimit ≠ 0 → s.pt.wallLimit < exposureSum b.pt.peers →
        exec (.ownReserveCompleted heard) s = .next (settle (reserveOutcome .failed (setOwnExposure 0 b))) := fun h h' => by
      rw [ownReserveCompleted_acts heard ha hi, ownReserveDone_failed hdone (hlimit ▸ h) (hlimit ▸ h')]
    refine ⟨fun hr hh => ⟨fun hlim => ?_, fun h h' => ?_⟩, fun r c e hr hcp hcf he => ?_⟩
    · rw [hpassed hlim, reserveOutcome_free _ (hlsv ▸ hh), dspReserved_passed hs' (hdsp ▸ hr)]
      refine ⟨fun hi he => ?_, fun hi he => ?_, fun hi => ?_⟩
      · rw [askBaseline_started (hntg ▸ hi) (hntg ▸ he)]
      · rw [askBaseline_stray (hntg ▸ hi) (hntg ▸ he)]
      · rw [askBaseline_refused (hntg ▸ hi)]
    · rw [hfailed h h', reserveOutcome_free (s := setOwnExposure 0 b) _ (hlsv ▸ hh),
        dspReserved_failed (s := setOwnExposure 0 b) hs' (hdsp ▸ hr)]
    · obtain ⟨o, hexec, hcdsp, hclsv⟩ : ∃ o, exec (.ownReserveCompleted heard) s = .next (settle (reserveOutcome o c))
          ∧ c.dsp = s.dsp ∧ c.lsv = s.lsv := by
        by_cases hlim : s.pt.wallLimit = 0 ∨ exposureSum b.pt.peers ≤ s.pt.wallLimit
        · exact ⟨.passed, by rw [hcp hlim, hpassed hlim], hcp hlim ▸ hdsp, hcp hlim ▸ hlsv⟩
        · obtain ⟨h, h'⟩ := not_or.1 hlim
          have hc := hcf h (Nat.not_le.1 h')
          exact ⟨.failed, by rw [hc, hfailed h (Nat.not_le.1 h')], by rw [hc]; exact hdsp, by rw [hc]; exact hlsv⟩
      have hends := dspReserved_recorded o (hcdsp ▸ hs) (hcdsp ▸ hr)
      refine ⟨fun h => ?_, fun h => ?_⟩
      · rw [hexec, reserveOutcome_free _ (hclsv ▸ h), hends, he]
      · rw [hexec, reserveOutcome_held _ (hclsv ▸ h), hends, he]
  · cases r with
    | jam => exact absurd rfl hj
    | restart => exact absurd rfl hr
    | _ => rfl

end Sys2Proof.Machine
end

section
/-!
PROOF. Lockdown and the drives: that no operation but the taking of a request begins an extension, that only the settling of the
transport fires a pick and only the own claim drives LAUNCH, and exactly when a pick fires.
-/

namespace Sys2Proof.Machine

open Sys2Proof

/-! ### An order or a jam begins no extension (R74, R78, R82) -/

section

variable {d : Drw}

@[simp] theorem restartTimer_state (d : Drw) : (restartTimer d).state = d.state := by
  unfold restartTimer
  split <;> rfl

@[simp] theorem retractOrder_stowed (h : d.state ≠ .extending) : (retractOrder d).state ≠ .extending := by
  unfold retractOrder
  (repeat' split) <;> simp_all

@[simp] theorem lockdownOrder_stowed (h : d.state ≠ .extending) : (lockdownOrder d).state ≠ .extending := by
  unfold lockdownOrder
  split <;> simp [h]

end

section

variable (s : State)

/-! ### What the dispense engine leaves of the drawer's state -/

@[simp] theorem dspActivate_drawer : (dspActivate s).drw.state = s.drw.state := by
  unfold dspActivate
  dsimp only
  (repeat' split) <;> simp [postNotes]

@[simp] theorem dspContinue_drawer : (dspContinue s).1.drw.state = s.drw.state := by
  unfold dspContinue
  dsimp only
  split <;> simp

@[simp] theorem dspBaseline_drawer (ok : Bool) : (dspBaseline ok s).drw.state = s.drw.state := by
  unfold dspBaseline
  (repeat' split) <;> simp

@[simp] theorem dspOnClear_drawer : (dspOnClear s).drw.state = s.drw.state := by
  unfold dspOnClear
  dsimp only
  (repeat' split) <;> simp

@[simp] theorem dspSlotCheck_drawer : (dspSlotCheck s).drw.state = s.drw.state := by
  unfold dspSlotCheck
  dsimp only
  (repeat' split) <;> simp

@[simp] theorem casReport_drawer (k : Slot) (f : Cassette → Cassette × Option CasCause) :
    (casReport k f s).drw.state = s.drw.state := by
  simp [casReport]

@[simp] theorem dspStacked_drawer (r : Routed) : (dspStacked r s).drw.state = s.drw.state := by
  unfold dspStacked
  dsimp only
  (repeat' split) <;> simp

@[simp] theorem dspHandOver_drawer (r : Routed) : (dspHandOver r s).drw.state = s.drw.state := by
  unfold dspHandOver
  (repeat' split) <;> simp

@[simp] theorem dspTaken_drawer : (dspTaken s).drw.state = s.drw.state := by
  unfold dspTaken
  dsimp only
  (repeat' split) <;> simp

@[simp] theorem dspLockdown_drawer : (dspLockdown s).drw.state = s.drw.state := by
  unfold dspLockdown
  split <;> simp [withdrawNotes]

@[simp] theorem dspRestart_drawer : (dspRestart s).drw.state = s.drw.state := by
  unfold dspRestart
  (repeat' split) <;> simp [withdrawNotes]

@[simp] theorem clearPurpose_drawer : (clearPurpose s).drw.state = s.drw.state := rfl

@[simp] theorem dealHome_drawer : (dealHome s).drw.state = s.drw.state := by
  unfold dealHome
  dsimp only
  (repeat' split) <;> simp

@[simp] theorem sweepEnds_drawer : (sweepEnds s).drw.state = s.drw.state := by
  unfold sweepEnds
  dsimp only
  split <;> simp

@[simp] theorem checkDrained_drawer : (checkDrained s).drw.state = s.drw.state := by
  unfold checkDrained
  dsimp only
  split <;> simp

end

/-! ### A drawer that is not extending stays so -/

section

variable {s : State}

@[simp] theorem drawerJam_stowed (cause : DrwJam) : (drawerJam cause s).drw.state ≠ .extending := by
  unfold drawerJam
  dsimp only
  (repeat' split) <;> simp

@[simp] theorem drawerArrives_stowed : (drawerArrives s).drw.state ≠ .extending := by
  simp [drawerArrives]

@[simp] theorem drawerOpens_stowed : (drawerOpens s).drw.state ≠ .extending := by
  unfold drawerOpens
  dsimp only
  split <;> simp

variable (h : s.drw.state ≠ .extending)

include h

@[simp] theorem retractRequest_stowed : (retractRequest s).drw.state ≠ .extending := by
  unfold retractRequest
  split <;> simp [h]

@[simp] theorem dspCancel_stowed : (dspCancel s).1.drw.state ≠ .extending := by
  unfold dspCancel
  split <;> simp [h, withdrawNotes, plain, refuse]

@[simp] theorem formWall_stowed : (formWall s).drw.state ≠ .extending := by
  unfold formWall
  dsimp only
  (repeat' split) <;> simp [h]

@[simp] theorem latchKinds_stowed (kinds : AlarmSet) : (latchKinds kinds s).drw.state ≠ .extending := by
  unfold latchKinds
  dsimp only
  (repeat' split) <;> simp [h]

@[simp] theorem loopLatches_stowed (loop : Slot) : (loopLatches loop s).drw.state ≠ .extending := by
  simp [loopLatches, h]

@[simp] theorem setEnable_stowed (loop : Slot) (enabled : Bool) : (setEnable loop enabled s).drw.state ≠ .extending := by
  unfold setEnable
  dsimp only
  split <;> simp [h]

@[simp] theorem closeServiceWindow_stowed : (closeServiceWindow s).drw.state ≠ .extending := by
  unfold closeServiceWindow
  dsimp only
  (repeat' split) <;> simp [h]

@[simp] theorem alarmResetSteps_stowed : (alarmResetSteps s).drw.state ≠ .extending := by
  unfold alarmResetSteps
  dsimp only
  (repeat' split) <;> simp [h]

@[simp] theorem enterPurging_stowed : (enterPurging s).drw.state ≠ .extending := by
  unfold enterPurging
  dsimp only
  split <;> simp [h]

@[simp] theorem loadEnds_stowed : (loadEnds s).drw.state ≠ .extending := by
  unfold loadEnds
  dsimp only
  (repeat' split) <;> simp [h]

@[simp] theorem ejectEnded_stowed : (ejectEnded s).drw.state ≠ .extending := by
  unfold ejectEnded
  split <;> simp [h]

@[simp] theorem itemTaken_stowed : (itemTaken s).drw.state ≠ .extending := by
  unfold itemTaken
  dsimp only
  (repeat' split) <;> simp [h]

@[simp] theorem backedOff_stowed : (backedOff s).drw.state ≠ .extending := by
  unfold backedOff
  dsimp only
  (repeat' split) <;> simp [h]

@[simp] theorem takeExpires_stowed : (takeExpires s).drw.state ≠ .extending := by
  unfold takeExpires
  dsimp only
  split <;> simp [h]

@[simp] theorem endService_stowed : (endService s).drw.state ≠ .extending := by
  simp [endService, h]

@[simp] theorem drawerRestart_stowed : (drawerRestart s).drw.state ≠ .extending := by
  unfold drawerRestart
  dsimp only
  (repeat' split) <;> simp [h]

@[simp] theorem restartTail_stowed : (restartTail s).drw.state ≠ .extending := by
  unfold restartTail
  dsimp only
  refine enterPurging_stowed ?_
  rw [(answerRestarts_keeps _).2.2.2.1]
  refine closeServiceWindow_stowed ?_
  split <;> exact drawerRestart_stowed h

@[simp] theorem restart_stowed : (restart s).drw.state ≠ .extending := by
  unfold restart
  dsimp only
  split <;> simp [h]

@[simp] theorem reserveOutcome_stowed (o : ReserveOutcome) : (reserveOutcome o s).drw.state ≠ .extending := by
  unfold reserveOutcome
  dsimp only
  split <;> simp [h]

@[simp] theorem reserveLost_stowed : (reserveLost s).drw.state ≠ .extending := by
  unfold reserveLost
  dsimp only
  split <;> simp [h]

@[simp] theorem onStatus_stowed (source : Station) (payload : List Byte) :
    (onStatus source payload s).drw.state ≠ .extending := by
  unfold onStatus
  (repeat' split) <;> simp [h]

@[simp] theorem onAlarm_stowed (source : Station) (payload : List Byte) :
    (onAlarm source payload s).drw.state ≠ .extending := by
  unfold onAlarm
  split <;> simp [h]

@[simp] theorem onForget_stowed (source : Station) (payload : List Byte) :
    (onForget source payload s).drw.state ≠ .extending := by
  unfold onForget
  dsimp only
  split <;> simp [h]

@[simp] theorem wallVoided_stowed (item : WallItem) : (wallVoided item s).drw.state ≠ .extending := by
  unfold wallVoided
  dsimp only
  (repeat' split) <;> simp [h]

@[simp] theorem voidAttempt_stowed : (voidAttempt s).drw.state ≠ .extending := by
  unfold voidAttempt
  dsimp only
  (repeat' split) <;> simp [h]

@[simp] theorem loseAttempt_stowed : (loseAttempt s).drw.state ≠ .extending := by
  unfold loseAttempt
  dsimp only
  (repeat' split) <;> simp [h]

@[simp] theorem completeAttempt_stowed (heard : Bool) : (completeAttempt heard s).drw.state ≠ .extending := by
  unfold completeAttempt ownReserveDone
  dsimp only
  (repeat' split) <;> simp [h]

@[simp] theorem breakFrame_stowed : (breakFrame s).drw.state ≠ .extending := by
  unfold breakFrame
  dsimp only
  split <;> simp [h]

@[simp] theorem endVoided_stowed (frame : Option RxFrame) : (endVoided frame s).drw.state ≠ .extending := by
  unfold endVoided
  dsimp only
  (repeat' split) <;> simp [h]

end

end Sys2Proof.Machine
end

section
/-!
PROOF. The recorded holder of the chute: which operations leave the own entry's holder flag as it is.
-/

namespace Sys2Proof.Machine

open Sys2Proof

/-! ### The own holder flag (R117, R120) -/

theorem peerAt_modifyPeer_holder (peers : Vector Peer 15) (n m : Nat) (amount : Nat) :
    (peerAt (modifyPeer n (fun p => { p with exposure := amount }) peers) m).holder = (peerAt peers m).holder := by
  by_cases hm : m = n
  · subst hm
    by_cases hn : m < 15
    · rw [peerAt_modifyPeer_same _ _ hn]
    · rw [modifyPeer_out _ _ (Nat.not_lt.1 hn)]
  · rw [peerAt_modifyPeer_other _ _ hm]

section

variable (s : State)

/-- What the own record says of the chute's holder is read from the peers and the strap alone. -/
theorem ownHolder_congr {s t : State} (hp : t.pt.peers = s.pt.peers) (hl : t.lsv.station = s.lsv.station) :
    t.ownHolder = s.ownHolder := by
  rw [State.ownHolder, State.ownHolder, hp, hl]

@[simp] theorem setOwnExposure_ownHolder (amount : Nat) : (setOwnExposure amount s).ownHolder = s.ownHolder :=
  peerAt_modifyPeer_holder s.pt.peers _ _ amount

@[simp] theorem queueEvent_ownHolder (kind : Nat) (payload : List Byte) :
    (queueEvent kind payload s).ownHolder = s.ownHolder := ownHolder_congr (by simp) (by simp)

@[simp] theorem dspEnd_ownHolder (reason : EndReason) (after : DspState) :
    (dspEnd reason after s).ownHolder = s.ownHolder := by
  unfold dspEnd
  dsimp only
  refine (ownHolder_congr rfl rfl).trans ((queueEvent_ownHolder _ _ _).trans ((ownHolder_congr ?_ ?_).trans
    (setOwnExposure_ownHolder s 0)))
  · split <;> simp
  · split <;> simp

@[simp] theorem dspFault_ownHolder : (dspFault s).ownHolder = s.ownHolder := by
  have hend : ∀ b : State, b.pt = s.pt → b.lsv = s.lsv → ∀ reason after, (dspEnd reason after b).ownHolder = s.ownHolder :=
    fun b hpt hlsv reason after => (dspEnd_ownHolder _ _ _).trans (ownHolder_congr (by rw [hpt]) (by rw [hlsv]))
  unfold dspFault dspEndReserving
  split
  · rfl
  · rfl
  · split
    · split <;> rfl
    · refine hend _ ?_ ?_ _ _ <;> rfl
  · split
    · refine hend _ ?_ ?_ _ _ <;> rfl
    · rfl
  all_goals refine hend _ ?_ ?_ _ _ <;> rfl

@[simp] theorem faultReport_ownHolder : (faultReport s).ownHolder = s.ownHolder := by
  obtain ⟨-, h⟩ | ⟨-, h⟩ | ⟨-, h⟩ := faultReport_cases s
  · rw [h]
    exact dspFault_ownHolder _
  · rw [h]
    rfl
  · rw [h]

theorem inkJam_ownHolder (cause : InkJam) : (inkJam cause s).ownHolder = s.ownHolder := by
  unfold inkJam
  dsimp only
  split <;> split <;>
    exact (ownHolder_congr rfl rfl).trans ((faultReport_ownHolder _).trans (ownHolder_congr (by simp) (by simp)))

theorem settleInk_ownHolder : (settleInk s).ownHolder = s.ownHolder := by
  unfold settleInk inkStart
  dsimp only
  split
  · split
    · rfl
    · split
      · split
        · exact inkJam_ownHolder _ _
        · rfl
      · rfl
  · rfl

theorem settle_ownHolder : (settle s).ownHolder = s.ownHolder :=
  (ownHolder_congr (by simp [settle]) (by simp [settle])).trans (settleInk_ownHolder s)

end

end Sys2Proof.Machine
end

section
/-!
PROOF. The transport's part of the settling: the diverter's side, and exactly when a pick fires.
-/

namespace Sys2Proof.Machine

open Sys2Proof

/-! ### When a pick fires, and the diverter (R26, R36) -/

/-- The diverter's own side for a transport: kept in a halt, else the oldest PAST_GAUGE record's (R36, R38). -/
theorem ntgDivert_eq (n : Ntg) : ntgDivert n = { n with
    diverter := if n.state = .halted then n.diverter
      else if (n.records.find? (fun r => decide (r.stage = .pastGauge))).bind (fun r => r.route) = some .stacker then .stacker
      else .reject } := by
  have hroute : oldestRoute n.records
      = (n.records.find? (fun r => decide (r.stage = .pastGauge))).bind (fun r => r.route) := by
    unfold oldestRoute
    cases n.records.find? (fun r => decide (r.stage = .pastGauge)) <;> rfl
  rw [← hroute, ntgDivert]
  split <;> rfl

/-- The conditions of R26, with the slot they fire. -/
theorem fires_iff (s : State) (k : Slot) : fires s = some k ↔ ∃ o, s.ntg.order = some o ∧ o.slot = k
    ∧ s.ntg.state = .feeding ∧ (∀ r ∈ s.ntg.records, r.stage = .pastGauge)
    ∧ s.dsp.stackerCount + s.ntg.records.length < o.target ∧ (s.cas.get o.slot).state.eligible = true
    ∧ s.lockdown = false := by
  unfold fires
  cases s.ntg.order with
  | none => simp
  | some o =>
    simp only [Option.some.injEq, exists_eq_left']
    split
    next h =>
      obtain ⟨hf, hr, ht, he, hl⟩ := h
      simp_all
    next h =>
      simp_all

theorem settleNtg_fires {s d : State} {k : Slot} (hd : d = { s with ntg := ntgDivert s.ntg }) (h : fires d = some k) :
    settleNtg s = { d with
      outputs := s.outputs ++ [.pick k], ntg.records := d.ntg.records ++ [pickedRecord k] } := by
  subst hd
  simp only [settleNtg, h]
  rfl

theorem settleNtg_rests {s d : State} (hd : d = { s with ntg := ntgDivert s.ntg }) (h : fires d = none) :
    settleNtg s = d := by
  subst hd
  simp only [settleNtg, h]

end Sys2Proof.Machine
end

section
/-!
PROOF. What a step may have driven and begun: `Held` is what must be true at a step's end, `Calm` what the model keeps true until its
blocks settle, and the settling turns the second into the first.
-/

namespace Sys2Proof.Machine

open Sys2Proof

/-! ### What a step may drive (R22, R26, R86, R117, R149) -/

/-- A drive that moves a note or opens the chute: a pick or LAUNCH. -/
def Output.moves : Output → Bool
  | .pick _ | .launch => true
  | .strobe .. | .ack | .object | .lineBreak => false

/-- What a drive of LAUNCH needs (R117). -/
def LaunchHeld (t : State) : Prop := .launch ∈ t.outputs → t.ownHolder = true ∧ t.pkt.chute = .launched

/-- An extension that has begun since `s` has begun outside lockdown (R86). -/
def ExtensionHeld (s t : State) : Prop := s.drw.state ≠ .extending → t.drw.state = .extending → t.lockdown = false

/-- What a step from `s` may have driven and begun when it ends in `t`. -/
structure Held (s t : State) : Prop where
  picks  : ∀ k, .pick k ∈ t.outputs → t.lockdown = false ∧ t.ntg.state = .feeding ∧ (t.cas.get k).state.eligible = true
    ∧ ∃ r ∈ t.ntg.records, r.slot = some k ∧ r.stage = .picked ∧ r.sincePick = some 0
  launch : LaunchHeld t
  drawer : ExtensionHeld s t

/-- A state between the blocks of a step: no pick driven yet. -/
structure Unfired (s u : State) : Prop where
  picks  : ∀ k, .pick k ∉ u.outputs
  launch : LaunchHeld u
  drawer : ExtensionHeld s u

/-- A state that the step has reached with nothing moved and no extension begun. -/
structure Calm (s u : State) : Prop where
  still  : ∀ o ∈ u.outputs, o.moves = false
  stowed : s.drw.state ≠ .extending → u.drw.state ≠ .extending

section

variable {s t u v : State}

theorem Calm.unfired (h : Calm s u) : Unfired s u where
  picks _ hk := Bool.noConfusion (h.still _ hk)
  launch hk := Bool.noConfusion (h.still _ hk)
  drawer hs hu := absurd hu (h.stowed hs)

theorem Unfired.held (h : Unfired s u) : Held s u where
  picks k hk := absurd hk (h.picks k)
  launch := h.launch
  drawer := h.drawer

theorem Calm.held (h : Calm s u) : Held s u := h.unfired.held

theorem calm_begun (s : State) : Calm s (begun s) where
  still o ho := by cases ho
  stowed h := h

theorem Calm.of_eq (h : Calm s u) (ho : v.outputs = u.outputs) (hd : u.drw.state ≠ .extending → v.drw.state ≠ .extending) :
    Calm s v where
  still o hv := h.still o (ho ▸ hv)
  stowed hs := hd (h.stowed hs)

theorem Calm.after_drive {o : Output} (h : Calm s u) (ho : o.moves = false) : Calm s (drive o u) where
  still o' h' := by
    rw [drive_outputs, List.mem_append, List.mem_singleton] at h'
    rcases h' with h' | rfl
    · exact h.still o' h'
    · exact ho
  stowed := h.stowed

/-! ### The blocks settle -/

/-- The pending notes request is taken in a drawer that is free, so outside lockdown (R74, R76). -/
theorem settleDrw_drawer (u : State) : (settleDrw u).drw.state = u.drw.state ∨ u.lockdown = false := by
  unfold settleDrw
  split
  · split
    next hfree =>
      simp only [State.drawerFree, Bool.and_eq_true, Bool.not_eq_true'] at hfree
      exact .inr hfree.2
    · exact .inl rfl
  · exact .inl rfl

theorem settlePkt_launched (h : u.pkt.chute = .launched) : (settlePkt u).pkt.chute = .launched := by
  rw [settlePkt, h]
  exact h

theorem lockdown_congr (h : v.alm = u.alm) : v.lockdown = u.lockdown := by rw [State.lockdown, State.lockdown, h]

/-- What was held before the blocks settle is held after it, and a pick fires by its conditions alone. -/
theorem Unfired.held_settle (h : Unfired s u) : Held s (settle u) := by
  have hlock : (settle u).lockdown = u.lockdown := lockdown_congr (settle_keeps u).2.1
  obtain ⟨w, hw⟩ : ∃ w, w = settleDrw (settleInk u) := ⟨_, rfl⟩
  have hout : w.outputs = u.outputs := by simp [hw]
  obtain ⟨d, hd⟩ : ∃ d, d = { w with ntg := ntgDivert w.ntg } := ⟨_, rfl⟩
  have hdout : d.outputs = u.outputs := by rw [hd]; exact hout
  have hsettle : settle u = settlePkt (settleNtg w) := by rw [hw]; rfl
  have hdrawer : ExtensionHeld s (settle u) := fun hs ht => by
    have hstate : (settle u).drw.state = w.drw.state := by simp [hsettle]
    rcases settleDrw_drawer (settleInk u) with he | hl
    · have hu : w.drw.state = u.drw.state := by rw [hw, he]; simp
      exact hlock.trans (h.drawer hs (hu ▸ hstate ▸ ht))
    · rw [hlock, ← hl]
      exact lockdown_congr (by simp)
  have hlaunched : .launch ∈ u.outputs → (settle u).ownHolder = true ∧ (settle u).pkt.chute = .launched := fun hu => by
    obtain ⟨hown, hchute⟩ := h.launch hu
    refine ⟨(settle_ownHolder u).trans hown, ?_⟩
    rw [hsettle]
    exact settlePkt_launched (by simpa [hw] using hchute)
  cases hf : fires d with
  | none =>
    have hout' : (settle u).outputs = u.outputs := by
      rw [hsettle, settleNtg_rests hd hf]
      simp [hdout]
    exact ⟨fun k hk => absurd (hout' ▸ hk) (h.picks k), fun hk => hlaunched (hout' ▸ hk), hdrawer⟩
  | some j =>
    have hout' : (settle u).outputs = u.outputs ++ [.pick j] := by
      rw [hsettle, settleNtg_fires hd hf]
      simp [hout]
    refine ⟨fun k hk => ?_, fun hk => hlaunched (by simpa [hout'] using hk), hdrawer⟩
    have hkj : k = j := by simpa [hout', h.picks k] using hk
    subst hkj
    obtain ⟨o, ho, rfl, hstate, -, -, hel, hl⟩ := (fires_iff d k).1 hf
    have hkeep : (settle u).ntg = { d.ntg with records := d.ntg.records ++ [pickedRecord o.slot] }
        ∧ (settle u).cas = d.cas ∧ (settle u).alm = d.alm := by
      rw [hsettle, settleNtg_fires hd hf]
      simp
    obtain ⟨hntg, hcas, halm⟩ := hkeep
    refine ⟨(lockdown_congr halm).trans hl, by rw [hntg]; exact hstate, by rw [hcas]; exact hel, pickedRecord o.slot, ?_,
      rfl, rfl, rfl⟩
    rw [hntg]
    exact List.mem_append_right _ (List.mem_singleton_self _)

theorem Calm.held_settle (h : Calm s u) : Held s (settle u) := h.unfired.held_settle

end

end Sys2Proof.Machine
end

section
/-!
PROOF. `Calm` through the framing of frames and commands, and the own chute claim, which alone drives LAUNCH.
-/

namespace Sys2Proof.Machine

open Sys2Proof

section

variable {s u : State}

theorem Calm.of_keeps (h : Calm s u) {v : State} (ho : v.outputs = u.outputs) (hd : v.drw = u.drw) : Calm s v :=
  h.of_eq ho (by rw [hd]; exact id)

theorem Held.of_when {f : State → State} {c : Bool} (hf : Held s (f u)) (hu : Calm s u) : Held s (when c f u) := by
  cases c
  · exact hu.held
  · exact hf

theorem Calm.of_when {f : State → State} {c : Bool} (hf : Calm s (f u)) (hu : Calm s u) : Calm s (when c f u) := by
  cases c
  · exact hu
  · exact hf

/-! ### Frames of other stations -/

theorem Calm.after_ackSlot (h : Calm s u) (f : RxFrame) : Calm s (ackSlot f u) := by
  obtain ⟨-, -, -, -, he⟩ | he := ackSlot_cases u f
  · rw [he]
    exact h.after_drive rfl
  · rw [he]
    exact h

theorem Calm.after_carrying {effect : State → State} (h : Calm s u) (he : ∀ {v}, Calm s v → Calm s (effect v)) (cls : BitVec 3)
    (kind : Nat) (f : RxFrame) : Calm s (carrying cls kind f effect u) := by
  obtain ⟨-, hc⟩ | hc := carrying_cases u cls kind f effect
  · rw [hc]
    exact he h
  · rw [hc]
    exact h

theorem Calm.after_receive {effect : State → State} (h : Calm s u) (he : ∀ {v}, Calm s v → Calm s (effect v)) (f : RxFrame) :
    Calm s (receive f effect u) := by
  have hheard : Calm s (ackSlot f (hear f.source u)) := (h.of_keeps (by simp) (by simp)).after_ackSlot f
  unfold receive
  dsimp only
  split
  · split
    · exact hheard
    · exact he hheard
  · exact h.of_keeps rfl rfl

theorem Calm.after_countVoid (h : Calm s u) : Calm s (countVoid u) := h.of_keeps (by simp) (by simp)

theorem Calm.after_breakFrame (h : Calm s u) : Calm s (breakFrame u) := by
  have hb : Calm s (drive .lineBreak { voidAttempt (dropReservations u) with biu.broken := true }) :=
    Calm.after_drive (h.of_eq (by simp) fun hd => by simp [hd]) rfl
  obtain ⟨-, he⟩ | ⟨-, he⟩ := breakFrame_cases u
  · rw [he]
    exact hb
  · rw [he]
    exact hb.after_countVoid

theorem Calm.after_endVoided (h : Calm s u) (frame : Option RxFrame) : Calm s (endVoided frame u) := by
  unfold endVoided
  dsimp only
  split
  · exact h.of_eq (by simp) fun hd => by simp [hd]
  next f =>
    split
    · exact h.after_breakFrame.of_keeps rfl rfl
    · have hended : Calm s { voidAttempt (dropReservations (ackSlot f u)) with biu.broken := false } :=
        (h.after_ackSlot f).of_eq (by simp) fun hd => voidAttempt_stowed (by simpa using hd)
      split
      · exact (hended.after_drive rfl).after_countVoid
      · exact hended

theorem Held.of_unlessVoided {taken : State → State} (h : Calm s u) (ht : Held s (taken u)) (f : RxFrame) :
    Held s (unlessVoided f taken u) := by
  obtain ⟨-, he⟩ | ⟨-, he⟩ := unlessVoided_cases u f taken
  · rw [he]
    exact (h.after_endVoided _).held_settle
  · rw [he]
    exact ht

/-! ### Taken commands -/

theorem Held.after_answer {t : State} (h : Held s t) (source : Station) (tag : Byte) (kind : BitVec 7) (reply : Reply) :
    Held s (answer source tag kind reply t) := by
  unfold answer
  split
  · exact { picks := h.picks, launch := h.launch, drawer := h.drawer }
  · exact h

theorem Held.of_checked {effect : State → State × Reply} {checks : List (Bool × Code)} (h : Calm s u)
    (he : firstFailing checks = none → Held s (effect u).1) : Held s (checked checks effect u).1 := by
  unfold checked
  split
  · exact h.held
  next hc => exact he hc

/-- A command's frame drives and begins nothing, unless its service does. -/
theorem Held.of_onCommand {serve : List Byte → State → State × Reply} (h : Calm s u)
    (hserve : ∀ p {v}, Calm s v → Held s (serve p v).1) (kind : BitVec 7) (source : Station) (payload : List Byte) :
    Held s (onCommand kind source payload serve u) := by
  have hheard : Calm s (hear source u) := h.of_keeps (by simp) (by simp)
  unfold onCommand
  dsimp only
  repeat' split
  · refine (hheard.of_keeps ?_ ?_).held <;> rfl
  · refine (hserve _ (hheard.of_keeps ?_ ?_)).after_answer _ _ _ _ <;> rfl
  · refine Held.after_answer (hheard.of_keeps ?_ ?_).held _ _ _ _ <;> rfl
  · exact hheard.held
  · exact h.held

/-- The requests that a console command gives the drawer are taken outside lockdown (R75, R111). -/
theorem Held.of_taking {v : State} (h : Calm s u) (hl : u.lockdown = false) (ho : v.outputs = u.outputs)
    (ha : v.alm = u.alm) : Held s v where
  picks _ hk := Bool.noConfusion (h.still _ (ho ▸ hk))
  launch hk := Bool.noConfusion (h.still _ (ho ▸ hk))
  drawer _ _ := (lockdown_congr ha).trans hl

/-! ### The own frames -/

/-- The own claim drives LAUNCH as recorded holder and becomes LAUNCHED with it (R117). -/
theorem ownClaimDone_unfired (h : Calm s u) : Unfired s (ownClaimDone u) := by
  unfold ownClaimDone
  split
  · split
    next hown =>
      split
      · refine ⟨fun k hk => ?_, fun _ => ⟨hown, rfl⟩, fun hs hu => absurd hu (h.stowed hs)⟩
        rw [drive_outputs, List.mem_append, List.mem_singleton] at hk
        rcases hk with hk | hk
        · exact Bool.noConfusion (h.still _ hk)
        · cases hk
      · exact (h.of_keeps (by simp) (by simp)).unfired
    · refine (h.of_keeps ?_ ?_).unfired <;> rfl
  · exact h.unfired

theorem completeAttempt_unfired (h : Calm s u) (heard : Bool) : Unfired s (completeAttempt heard u) := by
  unfold completeAttempt
  dsimp only
  split
  · exact h.unfired
  · split
    · exact (h.of_keeps (by simp) (by simp)).unfired
    · exact Calm.unfired (h.of_eq (by simp) fun hd => by simp [ownReserveDone, hd])
    · exact (h.of_keeps (by simp) (by simp)).unfired
    · exact ownClaimDone_unfired (h.of_keeps (by simp) (by simp))
    · exact (h.of_keeps (by simp) (by simp)).unfired
    · exact (h.of_keeps (by simp) (by simp)).unfired
    · exact (h.of_keeps (by simp) (by simp)).unfired

end

end Sys2Proof.Machine
end

section
/-!
PROOF. `Held` for the steps of the bus, of other stations' frames and of the transport, and the families that split the commands.
-/

namespace Sys2Proof.Machine

open Sys2Proof

/-! ### Every command -/

section

variable (s : State)

@[simp] theorem leadingEdge_still : (leadingEdge s).outputs = s.outputs ∧ (leadingEdge s).drw = s.drw := by
  unfold leadingEdge
  (repeat' split) <;> simp

@[simp] theorem closeBaseline_still (l r : Nat) :
    (closeBaseline l r s).outputs = s.outputs ∧ (closeBaseline l r s).drw.state = s.drw.state := by
  simp [closeBaseline]

@[simp] theorem checkDrained_outputs : (checkDrained s).outputs = s.outputs := by
  unfold checkDrained
  dsimp only
  split <;> simp

@[simp] theorem endMispick_still : (endMispick s).outputs = s.outputs ∧ (endMispick s).drw.state = s.drw.state := by
  unfold endMispick
  dsimp only
  (repeat' split) <;> simp

@[simp] theorem trailing_still : (trailing s).outputs = s.outputs ∧ (trailing s).drw.state = s.drw.state := by
  unfold trailing trailNote trailPurge learnFrom
  dsimp only
  (repeat' split) <;> simp

@[simp] theorem exitNote_still (side : Side) :
    (exitNote side s).outputs = s.outputs ∧ (exitNote side s).drw.state = s.drw.state := by
  unfold exitNote
  dsimp only
  (repeat' split) <;> simp

@[simp] theorem exitPurge_still (side : Side) : (exitPurge side s).outputs = s.outputs ∧ (exitPurge side s).drw = s.drw := by
  cases side <;> simp [exitPurge]

@[simp] theorem clearFails_still : (clearFails s).outputs = s.outputs ∧ (clearFails s).drw = s.drw := by simp [clearFails]

end

section

variable {s u t : State}

/-- A step that does one thing where a condition holds, and lets the blocks settle on it. -/
theorem Calm.held_when_settle {f : State → State} (h : Calm s u) (ho : (f u).outputs = u.outputs)
    (hd : u.drw.state ≠ .extending → (f u).drw.state ≠ .extending) (c : Bool) :
    Held s (when c (fun v => settle (f v)) u) :=
  Held.of_when (h.of_eq ho hd).held_settle h

theorem Calm.held_when {f : State → State} (h : Calm s u) (ho : (f u).outputs = u.outputs)
    (hd : u.drw.state ≠ .extending → (f u).drw.state ≠ .extending) (c : Bool) : Held s (when c f u) :=
  Held.of_when (h.of_eq ho hd).held h

/-- A broadcast of another station, with its content, whether or not this station voids it. -/
theorem Calm.held_frame {effect : State → State} (h : Calm s u) (ho : ∀ v, (effect v).outputs = v.outputs)
    (hd : ∀ v, v.drw.state ≠ .extending → (effect v).drw.state ≠ .extending) (cls : BitVec 3) (kind : Nat) (f : RxFrame) :
    Held s (unlessVoided f (receive f (carrying cls kind f effect)) u) ∧
    Held s (unlessVoided f (fun v => settle (receive f (carrying cls kind f effect) v)) u) := by
  have hr : Calm s (receive f (carrying cls kind f effect) u) :=
    h.after_receive (fun hv => hv.after_carrying (fun {w} hw => hw.of_eq (ho w) (hd w)) cls kind f) f
  exact ⟨Held.of_unlessVoided h hr.held f, Held.of_unlessVoided h hr.held_settle f⟩

/-- A console command whose service, where its checks pass, drives and begins nothing. -/
theorem Calm.held_command {checks : List Byte → State → List (Bool × Code)} {effect : List Byte → State → State × Reply}
    (h : Calm s u) (ho : ∀ p v, (effect p v).1.outputs = v.outputs)
    (hd : ∀ p v, v.drw.state ≠ .extending → (effect p v).1.drw.state ≠ .extending) (kind : BitVec 7) (source : Station)
    (payload : List Byte) : Held s (onCommand kind source payload (fun p v => checked (checks p v) (effect p) v) u) :=
  Held.of_onCommand h (fun p {v} hv => Held.of_checked hv fun _ => (hv.of_eq (ho p v) (hd p v)).held) kind source payload

/-- One whose service lets the blocks settle. -/
theorem Calm.held_settling {checks : List Byte → State → List (Bool × Code)} {effect : List Byte → State → State × Reply}
    {f : List Byte → State → State} (h : Calm s u) (he : ∀ p v, (effect p v).1 = settle (f p v))
    (ho : ∀ p v, (f p v).outputs = v.outputs) (hd : ∀ p v, v.drw.state ≠ .extending → (f p v).drw.state ≠ .extending)
    (kind : BitVec 7) (source : Station) (payload : List Byte) :
    Held s (onCommand kind source payload (fun p v => checked (checks p v) (effect p) v) u) :=
  Held.of_onCommand h (fun p {v} hv => Held.of_checked hv fun _ => by
    rw [he]
    exact (hv.of_eq (ho p v) (hd p v)).held_settle) kind source payload

theorem Calm.after_commandAck (h : Calm s u) (f : RxFrame) : Calm s (commandAck f u) := by
  have hdrop : Calm s (dropReservations u) := h.of_keeps (by simp) (by simp)
  unfold commandAck
  dsimp only
  split
  · exact (hdrop.after_drive (o := .ack) rfl).of_keeps rfl rfl
  · exact hdrop

theorem Calm.advanced (h : Calm s u) (path : PathCount) : Calm s (advanceTransport path u) := h.of_keeps rfl rfl

/-- The blocks whose steps the table tells, each with a step file of its own. -/
inductive Family where
  | bus | peer | command | transport | drawer | intake | pocket
deriving DecidableEq

/-- The step file that gives a command its meaning. -/
def familyOf : Instr → Family
  | .powerReset .. | .joinBus | .drawerSwitchesSettled .. | .offerAtIdle | .attemptLost | .commandAck .. | .formErrorBreak ..
  | .frameVoided .. | .quietTimeout | .busStuck | .busStuckRecovered | .ownAttemptCompleted .. | .ownAlarmCompleted ..
  | .ownStatusCompleted .. | .ownReserveCompleted .. | .statusPeriod => .bus
  | .statusReceived .. | .alarmReceived .. | .reserveReceived .. | .releaseReceived .. | .chuteClaimReceived ..
  | .chuteReleaseReceived .. | .binEmptiedReceived .. | .forgetReceived .. | .presenceOnlyFrame .. | .peerAbsent ..
  | .staleTimeout .. | .listenInEnd => .peer
  | .laneOpen .. | .laneClose .. | .dispense .. | .dispenseMix .. | .continueDispense .. | .cancel .. | .drawerOpen ..
  | .drawerClose .. | .envelopeCapture .. | .envelopeReturn .. | .imprintWrite .. | .imprintField .. | .cassetteLoad ..
  | .binSet .. | .serviceBegin .. | .serviceEnd .. | .alarmAck .. | .alarmReset .. | .query .. | .restart ..
  | .configLane .. | .configCassette .. | .configBins .. | .configDone .. | .badCommand .. => .command
  | .cassetteRemoved .. | .cassetteInserted .. | .transportStall .. | .baselineGateClosed .. | .edgeCovered .. | .mispick ..
  | .noteGateClosed .. | .trailingEdge .. | .longObject .. | .exitArrival .. | .noExit .. | .exitBlocked .. | .purgeDone ..
  | .suspendTimeout => .transport
  | .trayChange .. | .transferStrokeEnd .. | .returnLoadTimeout .. | .drawerExtended | .drawerHome ..
  | .drawerMotionTimeout .. | .safetyEdgePressed | .safetyEdgeCleared | .obstructionWaitEnd | .trayEmptyTimeout
  | .takeTimeout | .depositTimeout | .sweepEnd => .drawer
  | .intakeLeadingEdge .. | .notDrawn .. | .printWindowOpen .. | .printStrobe .. | .intakeTrailingEdge ..
  | .intakeTooLong .. | .envelopeSeated .. | .seatTimeout .. | .reversalEnd .. | .reverseTimeout .. | .intakeStall ..
  | .ejectEnd .. | .ejectTimeout .. | .clearRunEnd .. | .clearRunTimeout .. => .intake
  | .gatePulse | .gateTimeout | .fairnessWaitEnd | .loopChange .. | .sirenToggle | .sirenTimeout | .serviceTimeout => .pocket

section

variable {s t : State} {c : Instr} (h : exec c s = .next t)

include h

theorem busStep_held (hc : familyOf c = .bus) : Held s t := by
  have hb : Calm s (begun s) := calm_begun s
  cases c with
  | powerReset =>
    simp only [exec, execPowerReset] at h
    rw [act_next _ h]
    exact Calm.held ⟨fun o ho => (List.not_mem_nil ho).elim, fun _ => by simp [State.powerOn, Drw.reset]⟩
  | joinBus | statusPeriod =>
    simp only [exec, execJoinBus, execStatusPeriod] at h
    rw [act_next _ h]
    exact hb.held_when (by simp) (fun hd => by simpa using hd) _
  | offerAtIdle | busStuckRecovered =>
    simp only [exec, execOfferAtIdle, execBusStuckRecovered] at h
    rw [act_next _ h]
    exact (hb.of_keeps (by simp) (by simp)).held
  | drawerSwitchesSettled =>
    simp only [exec, execDrawerSwitchesSettled] at h
    rw [act_next _ h]
    refine hb.held_when ?_ (fun _ => ?_) _ <;> (repeat' split) <;> simp
  | attemptLost | quietTimeout | busStuck =>
    simp only [exec, execAttemptLost, execQuietTimeout, execBusStuck] at h
    rw [act_next _ h]
    exact hb.held_when_settle (by simp) (fun hd => by simp [hd]) _
  | frameVoided frame =>
    rw [act_next _ h]
    exact Held.of_when (hb.after_endVoided frame).held_settle hb
  | commandAck frame =>
    simp only [exec, execCommandAck] at h
    rw [act_next _ h]
    split
    · exact hb.after_breakFrame.held_settle
    · exact (hb.after_commandAck frame).held
  | formErrorBreak =>
    simp only [exec, execFormErrorBreak] at h
    rw [act_next _ h]
    refine Held.of_when (Calm.held_settle ?_) hb
    split
    · exact Calm.after_countVoid (Calm.after_drive (hb.of_keeps rfl rfl) rfl)
    · exact hb.after_breakFrame
  | ownAttemptCompleted heard | ownReserveCompleted heard =>
    rw [act_next _ h]
    exact Held.of_when (completeAttempt_unfired hb heard).held_settle hb
  | ownAlarmCompleted heard | ownStatusCompleted heard =>
    rw [act_next _ h]
    exact Held.of_when (completeAttempt_unfired hb heard).held hb
  | _ => cases hc

theorem peerStep_held (hc : familyOf c = .peer) : Held s t := by
  have hb : Calm s (begun s) := calm_begun s
  cases c with
  | peerAbsent =>
    rw [act_next _ h]
    exact hb.held_when (by simp) (fun hd => by simpa using hd) _
  | staleTimeout =>
    rw [act_next _ h]
    exact hb.held_when_settle (by simp) (fun hd => by simpa using hd) _
  | statusReceived | alarmReceived | binEmptiedReceived | forgetReceived =>
    simp only [exec, execStatusReceived, execAlarmReceived, execBinEmptiedReceived, execForgetReceived] at h
    rw [act_next _ h]
    exact Held.of_when (hb.held_frame (fun v => by simp) (fun v hd => by simp [hd]) _ _ _).2 hb
  | reserveReceived | releaseReceived =>
    simp only [exec, execReserveReceived, execReleaseReceived] at h
    rw [act_next _ h]
    exact Held.of_when (hb.held_frame (fun v => by simp) (fun v hd => by simp [hd]) _ _ _).1 hb
  | presenceOnlyFrame frame =>
    rw [act_next _ h]
    exact Held.of_when (Held.of_unlessVoided hb (hb.after_receive id frame).held frame) hb
  | chuteClaimReceived frame heard | chuteReleaseReceived frame heard =>
    simp only [exec, execChuteClaimReceived, execChuteReleaseReceived] at h
    rw [act_next _ h]
    refine Held.of_when ?_ hb
    split
    · exact (completeAttempt_unfired hb heard).held_settle
    · exact (hb.held_frame (fun v => by simp) (fun v hd => by simp [hd]) _ _ _).2
  | listenInEnd =>
    simp only [exec, execListenInEnd] at h
    rw [act_next _ h]
    refine hb.held_when_settle ?_ (fun hd => ?_) _
    · split <;> rfl
    · split <;> exact hd
  | _ => cases hc

theorem transportStep_held (hc : familyOf c = .transport) : Held s t := by
  have hb : Calm s (begun s) := calm_begun s
  cases c with
  | cassetteRemoved | suspendTimeout =>
    simp only [exec, execCassetteRemoved, execSuspendTimeout] at h
    rw [act_next _ h]
    exact hb.held_when_settle (by simp) (fun hd => by simpa using hd) _
  | cassetteInserted =>
    rw [act_next _ h]
    exact hb.held_when (by simp) (fun hd => by simpa using hd) _
  | transportStall path | baselineGateClosed path | edgeCovered path | mispick path | trailingEdge path | longObject path
  | noExit path | exitBlocked path | purgeDone path =>
    simp only [exec, execTransportStall, execBaselineGateClosed, execEdgeCovered, execMispick, execTrailingEdge,
      execLongObject, execNoExit, execExitBlocked, execPurgeDone] at h
    rw [act_next _ h]
    exact (hb.advanced path).held_when_settle (by simp) (fun hd => by simpa using hd) _
  | noteGateClosed path =>
    simp only [exec, execNoteGateClosed] at h
    rw [act_next _ h]
    exact (hb.advanced path).held_when rfl id _
  | exitArrival path side =>
    rw [exitArrival_eq] at h
    rw [← Host.Outcome.next.inj h]
    split
    · exact (hb.of_eq (by simp) fun hd => by simpa using hd).held_settle
    · split
      · exact (hb.of_eq (by simp) fun hd => by simpa using hd).held_settle
      · refine (hb.of_keeps ?_ ?_).held <;> rfl
  | _ => cases hc

end

end

end Sys2Proof.Machine
end

section
/-!
PROOF. `Held` for the steps of drawer, intake and pocket.
-/

namespace Sys2Proof.Machine

open Sys2Proof

section

variable {s t : State} {c : Instr} (h : exec c s = .next t)

include h

theorem drawerStep_held (hc : familyOf c = .drawer) : Held s t := by
  have hb : Calm s (begun s) := calm_begun s
  have hs : ∀ lines, Calm s (sample lines (begun s)) := fun _ => hb.of_keeps rfl rfl
  cases c with
  | trayChange =>
    simp only [exec, execTrayChange] at h
    rw [act_next _ h]
    refine (hb.of_eq ?_ fun hd => ?_).held_settle
    · rfl
    · simpa using hd
  | drawerExtended =>
    simp only [exec, execDrawerExtended] at h
    rw [act_next _ h]
    refine Calm.held (hb.of_eq ?_ fun hd => ?_) <;> (repeat' split) <;> simp_all
  | trayEmptyTimeout | takeTimeout | sweepEnd =>
    simp only [exec, execTrayEmptyTimeout, execTakeTimeout, execSweepEnd] at h
    rw [act_next _ h]
    exact hb.held_when_settle (by simp) (fun hd => by simp [hd]) _
  | transferStrokeEnd lines =>
    simp only [exec, execTransferStrokeEnd] at h
    rw [act_next _ h]
    exact (hs lines).held_when_settle (by simp) (fun hd => loadEnds_stowed hd) _
  | returnLoadTimeout lines | drawerHome lines =>
    simp only [exec, execReturnLoadTimeout, execDrawerHome] at h
    rw [act_next _ h]
    exact (hs _).held_when_settle (by simp) (fun _ => by simp) _
  | drawerMotionTimeout lines =>
    simp only [exec, execDrawerMotionTimeout] at h
    rw [act_next _ h]
    have hjam : ∀ cause, Held s (settle (drawerJam cause (sample lines (begun s)))) := fun _ =>
      ((hs lines).of_eq (by simp) fun _ => by simp).held_settle
    refine Held.of_when ?_ (hs lines)
    split
    · exact hjam _
    · exact hjam _
    · exact hjam _
    · exact (hs lines).held
    · exact (hs lines).held
  | safetyEdgePressed | safetyEdgeCleared =>
    simp only [exec, execSafetyEdgePressed, execSafetyEdgeCleared] at h
    rw [act_next _ h]
    refine Held.of_when (hb.of_eq ?_ fun _ => ?_).held (hb.of_eq rfl id)
    · rfl
    · simp [obstructed, beginRetraction]
  | obstructionWaitEnd =>
    simp only [exec, execObstructionWaitEnd] at h
    rw [act_next _ h]
    refine hb.held_when ?_ (fun hd => ?_) _
    · split <;> rfl
    · split
      · exact hd
      · simp
  | depositTimeout =>
    simp only [exec, execDepositTimeout] at h
    rw [act_next _ h]
    exact hb.held_when rfl (fun hd => retractOrder_stowed (by exact hd)) _
  | _ => cases hc

theorem intakeStep_held (hc : familyOf c = .intake) : Held s t := by
  have hb : Calm s (begun s) := calm_begun s
  have ha : ∀ pulses, Calm s (advanceIntake pulses (begun s)) := fun _ => hb.of_keeps rfl rfl
  have hs : ∀ pulses lines, Calm s (advanceIntake pulses (sample lines (begun s))) := fun _ _ => hb.of_keeps rfl rfl
  cases c with
  | intakeLeadingEdge pulses =>
    simp only [exec, execIntakeLeadingEdge] at h
    rw [act_next _ h]
    refine ((ha pulses).of_keeps ?_ ?_).held <;> rfl
  | notDrawn pulses lines | reversalEnd pulses lines =>
    simp only [exec, execNotDrawn, execReversalEnd] at h
    rw [act_next _ h]
    exact (hs pulses lines).held_when_settle (by simp) (fun hd => by simpa using hd) _
  | ejectEnd pulses lines | ejectTimeout pulses lines =>
    simp only [exec, execEjectEnd, execEjectTimeout] at h
    rw [act_next _ h]
    exact (hs pulses lines).held_when_settle (by simp) (fun hd => by exact ejectEnded_stowed (by simpa using hd)) _
  | seatTimeout pulses | reverseTimeout pulses | clearRunTimeout pulses =>
    simp only [exec, execSeatTimeout, execReverseTimeout, execClearRunTimeout] at h
    rw [act_next _ h]
    exact (ha pulses).held_when_settle (by simp) (fun hd => by simpa using hd) _
  | printWindowOpen pulses | intakeTooLong pulses =>
    simp only [exec, execPrintWindowOpen, execIntakeTooLong] at h
    rw [act_next _ h]
    exact (ha pulses).held_when (by simp) (fun hd => by simpa using hd) _
  | intakeTrailingEdge pulses =>
    simp only [exec, execIntakeTrailingEdge] at h
    rw [act_next _ h]
    refine Held.of_when (Calm.held ((ha pulses).of_keeps ?_ ?_)) ((ha pulses).of_keeps ?_ ?_) <;> rfl
  | printStrobe microseconds hot =>
    simp only [exec, execPrintStrobe] at h
    rw [act_next _ h]
    split
    · split
      · refine (Calm.after_drive (hb.of_keeps ?_ ?_) ?_).held <;> rfl
      · refine (hb.of_keeps ?_ ?_).held <;> rfl
    · refine (hb.of_keeps ?_ ?_).held <;> rfl
  | envelopeSeated pulses lines =>
    simp only [exec, execEnvelopeSeated] at h
    rw [act_next _ h]
    refine Held.of_when ?_ (hs pulses lines)
    split
    · exact ((hs pulses lines).of_keeps (by simp) (by simp)).held_settle
    · exact (hs pulses lines).held
  | intakeStall pulses =>
    simp only [exec, execIntakeStall] at h
    rw [act_next _ h]
    refine (ha pulses).held_when_settle ?_ (fun hd => ?_) _
    · split <;> simp
    · split <;> simpa using hd
  | clearRunEnd pulses lines =>
    simp only [exec, execClearRunEnd] at h
    rw [act_next _ h]
    refine (hs pulses lines).held_when_settle ?_ (fun hd => ?_) _
    · (repeat' split) <;> simp
    · (repeat' split) <;> simpa using hd
  | _ => cases hc

theorem pocketStep_held (hc : familyOf c = .pocket) : Held s t := by
  have hb : Calm s (begun s) := calm_begun s
  cases c with
  | gatePulse | gateTimeout | fairnessWaitEnd | serviceTimeout =>
    simp only [exec, execGatePulse, execGateTimeout, execFairnessWaitEnd, execServiceTimeout] at h
    rw [act_next _ h]
    exact hb.held_when_settle (by simp) (fun hd => by simp [hd]) _
  | sirenToggle | sirenTimeout =>
    simp only [exec, execSirenToggle, execSirenTimeout] at h
    rw [act_next _ h]
    exact hb.held_when (by simp) (fun hd => by simpa using hd) _
  | loopChange loop cls =>
    simp only [exec, execLoopChange] at h
    rw [act_next _ h]
    refine Held.of_when ?_ hb
    split
    · exact (hb.of_eq (by simp) fun hd => by exact loopLatches_stowed (by exact hd) _).held_settle
    · refine (hb.of_keeps ?_ ?_).held <;> rfl
  | _ => cases hc

end

end Sys2Proof.Machine
end

section
/-!
PROOF. `Held` for console commands: only DRAWER_OPEN and ENVELOPE_RETURN begin an extension, and both check for lockdown.
-/

namespace Sys2Proof.Machine

open Sys2Proof

/-- A service with checks of its own changes only what it changes where they pass. -/
theorem checked_preserves {α : Type} (g : State → α) {checks : List (Bool × Code)} {effect : State → State × Reply} {s : State}
    (he : g (effect s).1 = g s) : g (checked checks effect s).1 = g s := by
  unfold checked
  split
  · rfl
  · exact he

theorem dspDispenseMix_still (counts : Four Nat) (s : State) :
    (dspDispenseMix counts s).1.outputs = s.outputs ∧ (dspDispenseMix counts s).1.drw = s.drw :=
  ⟨checked_preserves State.outputs (by simp), checked_preserves State.drw (by simp)⟩

theorem serveLoad_still (source : Station) (slot count : Nat) (s : State) :
    (serveLoad source slot count s).1.outputs = s.outputs ∧ (serveLoad source slot count s).1.drw = s.drw := by
  unfold serveLoad
  (repeat' split) <;> simp [loadCassette, refuse]

theorem configureCassette_still (p : List Byte) (s : State) :
    (configureCassette p s).1.outputs = s.outputs ∧ (configureCassette p s).1.drw = s.drw := by
  unfold configureCassette
  dsimp only
  split <;> simp [refuse]

/-- A passed list of checks has every one of them passed. -/
theorem passed_of_mem {checks : List (Bool × Code)} {b : Bool} {code : Code} (h : firstFailing checks = none)
    (hm : (b, code) ∈ checks) : b = false := (firstFailing_none_iff checks).1 h _ hm

section

variable {s t : State} {c : Instr} (h : exec c s = .next t)

include h

theorem commandStep_held (hc : familyOf c = .command) : Held s t := by
  have hb : Calm s (begun s) := calm_begun s
  cases c with
  | laneOpen source payload =>
    simp only [exec, execLaneOpen] at h
    rw [act_next _ h]
    refine Held.of_onCommand hb (fun p {v} hv => ?_) _ _ _
    unfold serveLaneOpen
    split
    · refine (hv.of_keeps ?_ ?_).held <;> rfl
    · split <;> exact hv.held
  | laneClose | imprintWrite | imprintField | binSet | serviceBegin | configBins =>
    simp only [exec, execLaneClose, execImprintWrite, execImprintField, execBinSet, execServiceBegin, execConfigBins] at h
    rw [act_next _ h]
    exact hb.held_command (fun p v => rfl) (fun p v hd => hd) _ _ _
  | dispense source payload =>
    simp only [exec, execDispense] at h
    rw [act_next _ h]
    exact hb.held_command (fun p v => by simp) (fun p v hd => by simpa using hd) _ _ _
  | dispenseMix source payload =>
    simp only [exec, execDispenseMix] at h
    rw [act_next _ h]
    exact hb.held_command (fun p v => (dspDispenseMix_still _ v).1) (fun p v hd => by rwa [(dspDispenseMix_still _ v).2]) _ _ _
  | continueDispense source payload =>
    simp only [exec, execContinue] at h
    rw [act_next _ h]
    exact hb.held_settling (f := fun p v => (dspContinue v).1) (fun p v => rfl) (fun p v => by simp)
      (fun p v hd => by simpa using hd) _ _ _
  | cancel | serviceEnd | alarmReset | restart =>
    simp only [exec, execCancel, execServiceEnd, execAlarmReset, execRestart] at h
    rw [act_next _ h]
    exact hb.held_settling (fun p v => rfl) (fun p v => by simp) (fun p v hd => by simp [hd]) _ _ _
  | drawerOpen source payload =>
    simp only [exec, execDrawerOpen] at h
    rw [act_next _ h]
    exact Held.of_onCommand hb (fun p {v} hv => Held.of_checked hv fun hok =>
      Held.of_taking hv (passed_of_mem hok (b := v.lockdown) (code := .lockdown) (by simp [drawerOpenChecks]))
        (by simp) (by simp)) _ _ _
  | envelopeReturn source payload =>
    simp only [exec, execEnvelopeReturn] at h
    rw [act_next _ h]
    exact Held.of_onCommand hb (fun p {v} hv => Held.of_checked hv fun hok =>
      Held.of_taking hv (passed_of_mem hok (b := v.lockdown) (code := .lockdown) (by simp [returnChecks]))
        (by simp [takeEnvelopeReturn]) (by simp [takeEnvelopeReturn])) _ _ _
  | drawerClose source payload =>
    simp only [exec, execDrawerClose] at h
    rw [act_next _ h]
    exact hb.held_command (fun p v => rfl) (fun p v hd => retractOrder_stowed hd) _ _ _
  | envelopeCapture source payload =>
    simp only [exec, execEnvelopeCapture] at h
    rw [act_next _ h]
    exact hb.held_settling (f := fun p v => (capture (field p 1 3) v).1) (fun p v => rfl)
      (fun p v => rfl) (fun p v hd => hd) _ _ _
  | cassetteLoad source payload =>
    simp only [exec, execCassetteLoad] at h
    rw [act_next _ h]
    exact Held.of_onCommand hb (fun p {v} hv => (hv.of_keeps (serveLoad_still ..).1 (serveLoad_still ..).2).held) _ _ _
  | alarmAck source payload =>
    simp only [exec, execAlarmAck] at h
    rw [act_next _ h]
    refine hb.held_command (fun p v => ?_) (fun p v hd => ?_) _ _ _
    · split <;> simp
    · split <;> simpa using hd
  | query source payload lines =>
    simp only [exec, execQuery] at h
    rw [act_next _ h]
    exact Held.of_onCommand hb (fun p {v} hv => (hv.of_keeps (by simp) (by simp)).held) _ _ _
  | configLane source payload =>
    simp only [exec, execConfigLane] at h
    rw [act_next _ h]
    exact hb.held_settling (fun p v => rfl) (fun p v => by simp) (fun p v hd => (setEnable_stowed · _ _) <|
      (setEnable_stowed · _ _) <| (setEnable_stowed · _ _) <| setEnable_stowed (by exact hd) _ _) _ _ _
  | configCassette source payload =>
    simp only [exec, execConfigCassette] at h
    rw [act_next _ h]
    exact hb.held_command (fun p v => (configureCassette_still p v).1)
      (fun p v hd => by rwa [(configureCassette_still p v).2]) _ _ _
  | configDone source payload lines =>
    simp only [exec, execConfigDone] at h
    rw [act_next _ h]
    exact hb.held_settling (f := fun p v => enterPurging (sample lines v)) (fun p v => rfl) (fun p v => by simp)
      (fun p v hd => enterPurging_stowed hd) _ _ _
  | badCommand source kind payload =>
    simp only [exec, execBadCommand] at h
    rw [act_next _ h]
    exact Held.of_when (Held.of_onCommand hb (fun p {v} hv => hv.held) _ _ _) hb
  | _ => cases hc

end

end Sys2Proof.Machine
end

section
/-!
PROOF. `Held` for every command, and exactly when a pick fires.
-/

namespace Sys2Proof.Machine

open Sys2Proof

theorem exec_held {s t : State} {c : Instr} (h : exec c s = .next t) : Held s t := by
  cases hc : familyOf c with
  | bus => exact busStep_held h hc
  | peer => exact peerStep_held h hc
  | command => exact commandStep_held h hc
  | transport => exact transportStep_held h hc
  | drawer => exact drawerStep_held h hc
  | intake => exact intakeStep_held h hc
  | pocket => exact pocketStep_held h hc

/-- The diverter plays no part in whether a pick fires. -/
theorem fires_diverted (s : State) : fires { s with ntg := ntgDivert s.ntg } = fires s := by
  rw [ntgDivert_eq]
  rfl

theorem fires_none_of {s : State} (h : ∀ o, s.ntg.order = some o → ¬ (s.ntg.state = .feeding
    ∧ (∀ r ∈ s.ntg.records, r.stage = .pastGauge) ∧ s.dsp.stackerCount + s.ntg.records.length < o.target
    ∧ (s.cas.get o.slot).state.eligible = true ∧ s.lockdown = false)) : fires s = none := by
  cases hf : fires s with
  | none => rfl
  | some k =>
    obtain ⟨o, ho, -, hconditions⟩ := (fires_iff s k).1 hf
    exact absurd hconditions (h o ho)

/-- Settles O58: what a step may drive is kept block by block (`Held`), and the transport settles by R26's conditions. -/
theorem lockdownAndLaunchHold : Obligations.LockdownAndLaunchHold := by
  refine ⟨fun c s t h => ⟨(exec_held h).picks, (exec_held h).launch, (exec_held h).drawer⟩,
    fun s d => ⟨rfl, fun hd => ?_⟩⟩
  replace hd : d = { s with ntg := ntgDivert s.ntg } := by rw [hd, ntgDivert_eq]
  have hfires : fires d = fires s := by rw [hd, fires_diverted]
  refine ⟨fun o ho hfeed hpast htarget hslot hlock => ?_, fun hnot => ?_, fun o ho hnot => ?_⟩
  · have hrecords : d.ntg.records = s.ntg.records := by rw [hd, ntgDivert_eq]
    rw [settleNtg_fires hd (hfires.trans ((fires_iff s o.slot).2
      ⟨o, ho, rfl, hfeed, hpast, htarget, (CasState.eligible_iff _).2 hslot, hlock⟩)), hrecords]
    rfl
  · refine settleNtg_rests hd (hfires.trans (fires_none_of fun o ho ⟨hfeed, hpast, _, _, hlock⟩ => ?_))
    obtain hn | hs | ⟨r, hr, hstage⟩ | hl := hnot
    · exact absurd ho (by simp [hn])
    · exact hs hfeed
    · exact hstage (hpast r hr)
    · exact absurd hlock (by simp [hl])
  · refine settleNtg_rests hd (hfires.trans (fires_none_of fun o' ho' ⟨_, _, htarget, hel, _⟩ => ?_))
    obtain rfl : o = o' := Option.some.inj (ho.symm.trans ho')
    obtain ht | ⟨hok, hlow⟩ := hnot
    · exact absurd htarget (Nat.not_lt.2 ht)
    · exact ((CasState.eligible_iff _).1 hel).elim hok hlow

end Sys2Proof.Machine
end

section
/-!
PROOF. A restart act by act: what it makes of the dispense by its state, of the drawer by its state, and how the lane enters PURGING.
-/

namespace Sys2Proof.Machine

open Sys2Proof

section

variable {s : State}

/-! ### The dispense (R70) -/

theorem dspRestart_resting (h : s.dsp.state = .idle ∨ s.dsp.state = .fault ∨ (s.dsp.state = .purging ∧ s.dsp.dispensing = false)) :
    dspRestart s = s := by
  obtain h | h | ⟨h, hd⟩ := h
  · simp [dspRestart, h]
  · simp [dspRestart, h]
  · simp [dspRestart, h, hd]

theorem dspRestart_purging (h : s.dsp.state = .purging) (hd : s.dsp.dispensing = true) :
    dspRestart s = dspEnd (s.dsp.pendingEnd.getD .restart) .purging s := by
  simp [dspRestart, h, hd]

theorem dspRestart_reserving (h : s.dsp.state = .reserving) (hs : s.reserveSending = false) :
    dspRestart s = dspEnd .restart .purging (dropWall (.reserve s.dsp.amount) s) := by
  simp [dspRestart, h, dspEndReserving, hs, afterEnd]

/-- While the RESERVE is in transmission the reason recorded first stays (R63; log 16). -/
theorem dspRestart_sending (h : s.dsp.state = .reserving) (hs : s.reserveSending = true) :
    dspRestart s = { s with dsp.pendingEnd := some (s.dsp.pendingEnd.getD .restart) } := by
  have hr : dspRestart s = dspEndReserving .restart s := by simp [dspRestart, h]
  rw [hr, dspEndReserving, if_pos hs]
  cases he : s.dsp.pendingEnd with
  | none => rfl
  | some r => rw [if_neg (by simp), Option.getD_some, ← he]

theorem dspRestart_stacked (h : s.dsp.state = .stacked) :
    dspRestart s = dspEnd .restart .purging { s with drw.pendingReq := none, drw.blocked := false } := by
  simp only [dspRestart, h]
  rfl

theorem dspRestart_working
    (h : s.dsp.state = .baseline ∨ s.dsp.state = .picking ∨ s.dsp.state = .suspended ∨ s.dsp.state = .presenting) :
    dspRestart s = dspEnd .restart .purging s := by
  obtain h | h | h | h := h <;> simp only [dspRestart, h]

theorem restart_held (h : s.dsp.state = .reserving) (hs : s.reserveSending = true) :
    restart s = { s with dsp.pendingEnd := some (s.dsp.pendingEnd.getD .restart) } := by
  rw [restart, dspRestart_sending h hs]
  exact if_pos h

/-- The dispense states in which nothing is left to end. -/
def DspState.ended (d : DspState) : Prop := d = .idle ∨ d = .fault ∨ d = .purging

/-- A restart that is not held leaves no dispense. -/
theorem dspRestart_ended (h : s.dsp.state ≠ .reserving ∨ s.reserveSending = false) : (dspRestart s).dsp.state.ended := by
  cases hs : s.dsp.state with
  | idle => rw [dspRestart_resting (.inl hs)]; exact .inl hs
  | fault => rw [dspRestart_resting (.inr (.inl hs))]; exact .inr (.inl hs)
  | purging =>
    cases hd : s.dsp.dispensing with
    | false => rw [dspRestart_resting (.inr (.inr ⟨hs, hd⟩))]; exact .inr (.inr hs)
    | true => rw [dspRestart_purging hs hd]; exact .inr (.inr rfl)
  | reserving => rw [dspRestart_reserving hs (h.resolve_left (absurd hs))]; exact .inr (.inr rfl)
  | stacked => rw [dspRestart_stacked hs]; exact .inr (.inr rfl)
  | baseline => rw [dspRestart_working (.inl hs)]; exact .inr (.inr rfl)
  | picking => rw [dspRestart_working (.inr (.inl hs))]; exact .inr (.inr rfl)
  | suspended => rw [dspRestart_working (.inr (.inr (.inl hs)))]; exact .inr (.inr rfl)
  | presenting => rw [dspRestart_working (.inr (.inr (.inr hs)))]; exact .inr (.inr rfl)

theorem restart_acts (h : s.dsp.state ≠ .reserving ∨ s.reserveSending = false) : restart s = restartTail (dspRestart s) := by
  refine if_neg fun hr => ?_
  obtain he | he | he := dspRestart_ended h <;> rw [he] at hr <;> cases hr

/-! ### The transport and the service window (R40, R146) -/

theorem ntgStop_eq (n : Ntg) : ntgStop n = { n with
    order := none, state := if n.state = .halted then .halted else .idle, valid := n.valid && decide (n.state ≠ .baseline) } := by
  cases n with
  | mk state => cases state <;> simp [ntgStop]

theorem closeServiceWindow_closed (h : s.alm.serviceWindow = false) : closeServiceWindow s = s := by
  simp [closeServiceWindow, h]

theorem closeServiceWindow_quiet (h : s.alm.serviceWindow = true)
    (hl : s.alm.loops.three.enabled = false ∨ s.alm.loops.three.state = .normal) :
    closeServiceWindow s = { s with alm.serviceWindow := false } := by
  rw [closeServiceWindow, if_pos h]
  exact if_neg fun ⟨he, hn⟩ => hl.elim (fun hf => Bool.noConfusion (he.symm.trans hf)) hn

theorem closeServiceWindow_latches (h : s.alm.serviceWindow = true) (he : s.alm.loops.three.enabled = true)
    (hl : s.alm.loops.three.state ≠ .normal) :
    closeServiceWindow s = latchKinds { AlarmSet.empty with cabinet := true } { s with alm.serviceWindow := false } := by
  rw [closeServiceWindow, if_pos h]
  exact if_pos ⟨he, hl⟩

/-- The window's close, told by its cases. -/
theorem closeServiceWindow_unique {i w : State} (hclosed : i.alm.serviceWindow = false → w = i)
    (hopen : i.alm.serviceWindow = true →
      (i.alm.loops.three.enabled = false ∨ i.alm.loops.three.state = .normal → w = { i with alm.serviceWindow := false }) ∧
      (i.alm.loops.three.enabled = true → i.alm.loops.three.state ≠ .normal →
        w = latchKinds { AlarmSet.empty with cabinet := true } { i with alm.serviceWindow := false })) :
    w = closeServiceWindow i := by
  cases hw : i.alm.serviceWindow with
  | false => rw [hclosed hw, closeServiceWindow_closed hw]
  | true =>
    obtain ⟨hquiet, hlatches⟩ := hopen hw
    by_cases hl : i.alm.loops.three.enabled = false ∨ i.alm.loops.three.state = .normal
    · rw [hquiet hl, closeServiceWindow_quiet hw hl]
    · obtain ⟨he, hn⟩ := not_or.1 hl
      rw [hlatches (by simpa using he) hn, closeServiceWindow_latches hw (by simpa using he) hn]

/-! ### Held restarts (R183) -/

/-- Every held restart is answered OK in the position kept for it. -/
theorem answerRestarts_eq (s : State) : answerRestarts s = { s with
    lsv.heldRestarts := [],
    biu.fifo := s.lsv.heldRestarts.foldl
      (fun fifo r => fillPos .restart (.frame { kind := 48, dest := r.1, payload := [r.2, 35, 0] }) fifo) s.biu.fifo } := by
  have hfifo : ∀ (l : List (Station × Byte)) (v : State),
      (l.foldl (fun s r => fillFrame .restart (replyFrame r.1 r.2 kindRestart .ok []) s) v).biu.fifo
        = l.foldl (fun fifo r => fillPos .restart (.frame { kind := 48, dest := r.1, payload := [r.2, 35, 0] }) fifo)
            v.biu.fifo := fun l => by
    induction l with
    | nil => exact fun v => rfl
    | cons r l ih => exact fun v => ih (fillFrame .restart (replyFrame r.1 r.2 kindRestart .ok []) v)
  rw [answerRestarts, foldl_fillFrame, hfifo]

/-- The later acts of a restart, in their order (R183, R186). -/
theorem restartTail_eq {s d i w : State}
    (hd : d = drawerRestart { s with
      ntg.order := none, ntg.state := if s.ntg.state = .halted then .halted else .idle,
      ntg.valid := s.ntg.valid && decide (s.ntg.state ≠ .baseline) })
    (hi : i = { d with ink.state := if d.ink.state = .waiting then .idle else d.ink.state,
                       lsv.serviceTimer := none, lsv.heldFault := false, pt.listenIn := none })
    (hw : w = closeServiceWindow i) : restartTail s = enterPurging (answerRestarts { w with cmd.owner := none }) := by
  have hstop : { s with ntg := ntgStop s.ntg } = { s with
      ntg.order := none, ntg.state := if s.ntg.state = .halted then .halted else .idle,
      ntg.valid := s.ntg.valid && decide (s.ntg.state ≠ .baseline) } := by rw [ntgStop_eq]
  have hink : { (if d.ink.state = .waiting then { d with ink.state := .idle } else d) with
      lsv.serviceTimer := none, lsv.heldFault := false, pt.listenIn := none } = i := by
    rw [hi]
    split <;> rfl
  rw [restartTail, hstop, ← hd, hw, ← hink]

/-! ### The lane enters PURGING (R183) -/

theorem enterPurging_eq (s : State) {p d : State}
    (hp : p = settlePkt { s with lsv.lane := .purging, lsv.stage := .drawer, lsv.transportDone := false })
    (hd : d = { p with
      dsp.rejectCount := min s.dsp.rejectCap (s.dsp.rejectCount + s.dsp.leftover),
      dsp.overflow := s.dsp.overflow || decide (s.dsp.rejectCap < s.dsp.rejectCount + s.dsp.leftover),
      dsp.leftover := 0, dsp.state := .purging, dsp.dispensing := false, ntg := ntgPurge s.ntg }) :
    (s.drw.state = .jammed → enterPurging s = { d with lsv.lane := .fault }) ∧
    (s.drw.state = .closed → enterPurging s = clearRequest { d with lsv.stage := .intake }) ∧
    (s.drw.state = .extending ∨ s.drw.state = .opened ∨ s.drw.state = .retracting →
      enterPurging s = { d with drw := retractOrder s.drw }) := by
  have hpk : p.dsp = s.dsp ∧ p.ntg = s.ntg ∧ p.drw = s.drw ∧ p.lsv.lane = .purging ∧ p.lsv.stage = .drawer := by simp [hp]
  obtain ⟨hdsp, hntg, hdrw, hlane, hstage⟩ := hpk
  have hbegun : { dspPurgeBegins p with ntg := ntgPurge (dspPurgeBegins p).ntg } = d := by
    rw [hd, ← hdsp, ← hntg]
    rfl
  have hdd : d.drw = s.drw := by rw [hd]; exact hdrw
  have hdl : d.lsv.lane = .purging ∧ d.lsv.stage = .drawer := by rw [hd]; exact ⟨hlane, hstage⟩
  have hfail : purgeFail d = { d with lsv.lane := .fault } := by
    rw [purgeFail, if_pos hdl.1]
    exact (dspFault_purging (s := { d with lsv.lane := .fault }) (by rw [hd])).1 (by rw [hd])
  rw [enterPurging, ← hp, hbegun, ← hdd]
  split
  next h => exact ⟨fun _ => hfail, by simp [h], by simp [h]⟩
  next h => exact ⟨by simp [h], fun _ => by rw [drawerClosed, if_pos hdl], by simp [h]⟩
  all_goals
    next h => exact ⟨by simp [h], by simp [h], fun _ => rfl⟩

/-! ### The drawer (R87) -/

/-- What a restart drops of the drawer before it deals with the tray. -/
def drawerDropped (d : Drw) : Drw := { d with
  pendingReq := none, blocked := false, take := none, deposit := none, sweep := none, obstructions := 0,
  purpose := if d.purpose = .ret then .ret else .none,
  trayEmpty := if d.purpose = .ret then d.trayEmpty else none }

theorem drawerRestart_moves (h : s.drw.state ≠ .jammed) :
    drawerRestart s = { s with drw := retractOrder (drawerDropped s.drw) } := by
  rw [drawerRestart]
  exact if_neg h

/-- A jammed drawer that is not home is driven in. -/
theorem drawerRestart_drivenIn (h : s.drw.state = .jammed) (hl : s.lines.home = false) :
    drawerRestart s = { s with drw := beginRetraction { drawerDropped s.drw with jam := .none } } := by
  rw [drawerRestart]
  refine (if_pos h).trans ?_
  exact if_neg (by simp [hl])

theorem drawerRestart_home (h : s.drw.state = .jammed) (hl : s.lines.home = true) (he : s.lines.ext = false) :
    drawerRestart s = { s with drw := { drawerDropped s.drw with jam := .none, state := .closed } } := by
  rw [drawerRestart]
  refine (if_pos h).trans ((if_pos hl).trans ?_)
  exact if_neg (by simp [he])

theorem drawerRestart_bothActive (h : s.drw.state = .jammed) (hl : s.lines.home = true) (he : s.lines.ext = true) :
    drawerRestart s = drawerJam .switches { s with drw := { drawerDropped s.drw with jam := .none } } := by
  rw [drawerRestart]
  exact (if_pos h).trans ((if_pos hl).trans (if_pos he))

end

end Sys2Proof.Machine
end

section
/-!
PROOF. What a restart keeps: its acts followed one by one, and the settling at its end, which finds nothing to do but for the pocket.
-/

namespace Sys2Proof.Machine

open Sys2Proof

section

variable {s : State}

/-! ### The drawer through a restart -/

/-- A drawer that a restart has dealt with, apart from one jammed with both switches active. -/
structure Dealt (before d : Drw) : Prop where
  free        : d.state ≠ .jammed
  unasked     : d.pendingReq = none
  purpose     : d.purpose ≠ .notes
  fresh       : d.obstructions = 0
  takeTime    : d.takeTimeout = before.takeTimeout
  depositTime : d.depositTimeout = before.depositTimeout

theorem Dealt.after_retractOrder {b d : Drw} (h : Dealt b d) : Dealt b (retractOrder d) := by
  obtain ⟨hfree, hreq, hpurpose, hfresh, htake, hdeposit⟩ := h
  unfold retractOrder
  (repeat' split) <;> exact ⟨by simp_all [beginRetraction], hreq, hpurpose, by simp_all [beginRetraction], htake, hdeposit⟩

theorem Dealt.after_lockdownOrder {b d : Drw} (h : Dealt b d) : Dealt b (lockdownOrder d) := by
  unfold lockdownOrder
  split
  · exact h.after_retractOrder
  · exact h

theorem drawerDropped_dealt {d : Drw} (h : d.state ≠ .jammed) : Dealt d (drawerDropped d) where
  free        := h
  unasked     := rfl
  purpose     := by
    unfold drawerDropped
    split <;> simp
  fresh       := rfl
  takeTime    := rfl
  depositTime := rfl

theorem drawerRestart_dealt (h : s.drw.state ≠ .jammed ∨ s.lines.home = false ∨ s.lines.ext = false) :
    ∃ d, drawerRestart s = { s with drw := d } ∧ Dealt s.drw d := by
  have hpurpose : (drawerDropped s.drw).purpose ≠ .notes := by
    unfold drawerDropped
    split <;> simp
  by_cases hj : s.drw.state = .jammed
  · cases hh : s.lines.home with
    | false => exact ⟨_, drawerRestart_drivenIn hj hh, by simp [beginRetraction], rfl, hpurpose, rfl, rfl, rfl⟩
    | true =>
      have he : s.lines.ext = false := by simpa [hj, hh] using h
      exact ⟨_, drawerRestart_home hj hh he, by simp, rfl, hpurpose, rfl, rfl, rfl⟩
  · exact ⟨_, drawerRestart_moves hj, (drawerDropped_dealt hj).after_retractOrder⟩

/-! ### The service window closes -/

theorem dspLockdown_ended (h : s.dsp.state.ended) : dspLockdown s = s := by
  obtain h | h | h := h <;> simp [dspLockdown, h]

/-- With no dispense left a kind that latches reaches the drawer at most by a retract order. -/
theorem latchKinds_ended (h : s.dsp.state.ended) (kinds : AlarmSet) :
    ∃ a d f, latchKinds kinds s = { s with alm := a, drw := d, biu.alarmFlag := f } ∧ a.serviceWindow = s.alm.serviceWindow
      ∧ a.loops = s.alm.loops ∧ (d = s.drw ∨ d = lockdownOrder s.drw) := by
  have hwall : ∀ v : State, v.dsp.state.ended → ∃ a d, formWall v = { v with alm := a, drw := d }
      ∧ a.serviceWindow = v.alm.serviceWindow ∧ a.loops = v.alm.loops ∧ (d = v.drw ∨ d = lockdownOrder v.drw) := by
    intro v hv
    unfold formWall
    dsimp only
    rw [dspLockdown_ended (s := { v with alm.wall := v.formedWall }) hv]
    split
    · split
      · exact ⟨_, _, rfl, rfl, rfl, .inr rfl⟩
      · exact ⟨_, _, rfl, rfl, rfl, .inl rfl⟩
    · exact ⟨_, _, rfl, rfl, rfl, .inl rfl⟩
  unfold latchKinds
  dsimp only
  split
  · exact ⟨_, _, _, rfl, rfl, rfl, .inl rfl⟩
  · obtain ⟨a, d, he, hw, hl, hd⟩ := hwall
      { s with alm.latch := s.alm.latch.union kinds, alm.latchChanged := true, biu.alarmFlag := true } h
    rw [he]
    (repeat' split) <;> exact ⟨_, _, _, rfl, hw, hl, hd⟩

theorem closeServiceWindow_ended (h : s.dsp.state.ended) :
    ∃ a d f, closeServiceWindow s = { s with alm := a, drw := d, biu.alarmFlag := f } ∧ a.serviceWindow = false
      ∧ a.loops = s.alm.loops ∧ (s.alm.serviceWindow = false → a.latch = s.alm.latch)
      ∧ (d = s.drw ∨ d = lockdownOrder s.drw) := by
  cases hw : s.alm.serviceWindow with
  | false => exact ⟨_, _, _, closeServiceWindow_closed hw, hw, rfl, fun _ => rfl, .inl rfl⟩
  | true =>
    by_cases hl : s.alm.loops.three.enabled = false ∨ s.alm.loops.three.state = .normal
    · exact ⟨_, _, _, closeServiceWindow_quiet hw hl, rfl, rfl, nofun, .inl rfl⟩
    · obtain ⟨he, hn⟩ := not_or.1 hl
      obtain ⟨a, d, f, hlatched, hwindow, hloops, hd⟩ := latchKinds_ended (s := { s with alm.serviceWindow := false }) h
        { AlarmSet.empty with cabinet := true }
      exact ⟨a, d, f, (closeServiceWindow_latches hw (by simpa using he) hn).trans hlatched, hwindow, hloops, nofun, hd⟩

/-! ### The survey only adds -/

/-- A state with more records in its pocket and more frames in its FIFO. -/
structure Grown (s t : State) : Prop where
  pocket : ∃ found, t.pkt.pocket = s.pkt.pocket ++ found
  fifo   : ∀ p ∈ s.biu.fifo, p ∈ t.biu.fifo

theorem Grown.refl (s : State) : Grown s s := ⟨⟨[], (List.append_nil _).symm⟩, fun _ => id⟩

theorem Grown.trans {t u : State} (h : Grown s t) (h' : Grown t u) : Grown s u := by
  obtain ⟨⟨a, ha⟩, hf⟩ := h
  obtain ⟨⟨b, hb⟩, hf'⟩ := h'
  exact ⟨⟨a ++ b, by rw [hb, ha, List.append_assoc]⟩, fun p hp => hf' p (hf p hp)⟩

theorem queueEvent_fifo_mem (kind : Nat) (payload : List Byte) (s : State) {p : FifoPos} (h : p ∈ s.biu.fifo) :
    p ∈ (queueEvent kind payload s).biu.fifo := by
  obtain ⟨-, he⟩ | ⟨-, he⟩ := queueEvent_cases s kind payload <;> rw [he]
  · exact List.mem_append_left _ h
  · exact h

theorem recoverOne_grown (s : State) : Grown s (recoverOne s) where
  pocket := ⟨[recoveredRecord s.takenSeq], by simp [recoverOne, joinPocket]⟩
  fifo _ hp := queueEvent_fifo_mem _ _ _ (by simpa using hp)

theorem survey_grown (s : State) : Grown s (survey s) := by
  unfold survey
  induction s.coveredPlaces - s.pkt.pocket.length with
  | zero => exact Grown.refl s
  | succ n ih => exact ih.trans (recoverOne_grown _)

/-- With the transport still in its run a clear request ends no purge, and leaves no intake waiting. -/
theorem clearRequest_open (h : s.lsv.transportDone = false) :
    (clearRequest s).lsv.lane = s.lsv.lane ∧ (clearRequest s).pt.listenIn = s.pt.listenIn
      ∧ (clearRequest s).ink.state ≠ .waiting ∧ Grown s (clearRequest s) := by
  have hclear : ∀ v : State, v.lsv.transportDone = false → (intakeClear v).lsv.lane = v.lsv.lane
      ∧ (intakeClear v).pt.listenIn = v.pt.listenIn ∧ Grown v (intakeClear v) := by
    intro v hv
    unfold intakeClear
    split
    · have hcheck : purgeCheck { survey v with lsv.stage := .surveyed } = { survey v with lsv.stage := .surveyed } :=
        if_neg (by simp [hv])
      rw [hcheck]
      exact ⟨by simp, by simp, (survey_grown v).pocket, (survey_grown v).fifo⟩
    · exact ⟨rfl, rfl, Grown.refl v⟩
  have hgrown : ∀ k : Ink, Grown s { s with ink := k } := fun _ => ⟨(Grown.refl s).pocket, (Grown.refl s).fifo⟩
  unfold clearRequest
  split
  · split
    · exact ⟨rfl, rfl, by simp [startClear], hgrown _⟩
    · obtain ⟨hl, hp, hg⟩ := hclear { s with ink.state := .idle } h
      exact ⟨hl, hp, by simp, (hgrown _).trans hg⟩
  · split
    · exact ⟨rfl, rfl, by simp [startClear], hgrown _⟩
    · obtain ⟨hl, hp, hg⟩ := hclear { s with ink.state := .idle } h
      exact ⟨hl, hp, by simp, (hgrown _).trans hg⟩
  · exact ⟨rfl, rfl, by simp [startClear], hgrown _⟩
  all_goals
    next hs => exact ⟨rfl, rfl, by simp [hs], hgrown _⟩

/-! ### The lane in PURGING -/

/-- A lane that has entered PURGING from `s` with its drawer not jammed. -/
structure Entered (s e : State) : Prop where
  lane     : e.lsv.lane = .purging
  dspState : e.dsp.state = .purging
  ended    : e.dsp.dispensing = false
  bundles  : e.dsp.bundleLimit = s.dsp.bundleLimit
  bins     : e.dsp.rejectCap = s.dsp.rejectCap ∧ e.dsp.retractCap = s.dsp.retractCap ∧ e.dsp.retractCount = s.dsp.retractCount
  ntg      : e.ntg = ntgPurge s.ntg
  drw      : e.drw = s.drw ∨ e.drw = retractOrder s.drw
  unwaited : e.ink.state ≠ .waiting
  listenIn : e.pt.listenIn = s.pt.listenIn
  grown    : Grown s e

theorem enterPurging_entered (h : s.drw.state ≠ .jammed) (hi : s.ink.state ≠ .waiting) : Entered s (enterPurging s) := by
  obtain ⟨p, hp⟩ : ∃ p, p = settlePkt { s with lsv.lane := .purging, lsv.stage := .drawer, lsv.transportDone := false } :=
    ⟨_, rfl⟩
  have hkeep : p.dsp = s.dsp ∧ p.drw = s.drw ∧ p.ink = s.ink ∧ p.pt = s.pt ∧ p.lsv.lane = .purging
      ∧ p.lsv.transportDone = false ∧ p.pkt.pocket = s.pkt.pocket ∧ p.biu.fifo = s.biu.fifo := by simp [hp]
  obtain ⟨hdsp, hdrw, hink, hpt, hlane, hdone, hpocket, hfifo⟩ := hkeep
  have hgrown : Grown s p := ⟨⟨[], by rw [hpocket, List.append_nil]⟩, fun x hx => hfifo ▸ hx⟩
  obtain ⟨-, hclosed, hmoves⟩ := enterPurging_eq s hp rfl
  have hmoving : s.drw.state = .extending ∨ s.drw.state = .opened ∨ s.drw.state = .retracting → Entered s (enterPurging s) :=
    fun hm => by
      rw [hmoves hm]
      exact ⟨hlane, rfl, rfl, by simp [hdsp], by simp [hdsp], rfl, .inr rfl, by simpa [hink] using hi, by simp [hpt],
        hgrown.pocket, hgrown.fifo⟩
  cases hs : s.drw.state with
  | jammed => exact absurd hs h
  | extending => exact hmoving (.inl hs)
  | opened => exact hmoving (.inr (.inl hs))
  | retracting => exact hmoving (.inr (.inr hs))
  | closed =>
    rw [hclosed hs]
    obtain ⟨hl, hli, hiw, hg⟩ := clearRequest_open (s := { p with
      dsp.rejectCount := min s.dsp.rejectCap (s.dsp.rejectCount + s.dsp.leftover),
      dsp.overflow := s.dsp.overflow || decide (s.dsp.rejectCap < s.dsp.rejectCount + s.dsp.leftover),
      dsp.leftover := 0, dsp.state := .purging, dsp.dispensing := false, ntg := ntgPurge s.ntg,
      lsv.stage := .intake }) hdone
    exact ⟨hl.trans hlane, by simp, by simp, by simp [hdsp], by simp [hdsp], by simp, by simp [hdrw], hiw, by rw [hli, hpt],
      hgrown.trans ⟨hg.pocket, hg.fifo⟩⟩

/-! ### The settling at a restart's end -/

/-- In its purge run the transport holds the diverter on the reject side and picks nothing. -/
theorem settleNtg_purge {n : Ntg} (h : s.ntg = ntgPurge n) : settleNtg s = s := by
  have hroute : oldestRoute s.ntg.records ≠ some .stacker := by
    rw [h, ntgPurge_records, oldestRoute]
    split
    next r hr =>
      obtain ⟨_, -, rfl⟩ := List.mem_map.1 (List.mem_of_find?_eq_some hr)
      simp [purgeRecord]
    · simp
  have hd : ntgDivert s.ntg = s.ntg := by
    rw [ntgDivert, if_neg (by simp [h]), if_neg hroute, h]
    rfl
  have hs : s = { s with ntg := ntgDivert s.ntg } := by rw [hd]
  refine settleNtg_rests hs (fires_none_of fun o ho => ?_)
  simp [h] at ho

theorem settle_entered {b : State} (h : Entered b s) (hp : s.drw.pendingReq = none) : settle s = settlePkt s := by
  rw [settle, settleInk_not_waiting s h.unwaited, settleDrw_none s hp, settleNtg_purge h.ntg]

end

end Sys2Proof.Machine
end

section
/-!
PROOF. RESTART: the reply kept and answered, and the acts of the two files before put together.
-/

namespace Sys2Proof.Machine

open Sys2Proof

section

variable {s : State}

/-! ### The dispense's end keeps what a restart keeps -/

theorem dspEnd_keepsBins (reason : EndReason) (after : DspState) (s : State) :
    (dspEnd reason after s).dsp.bundleLimit = s.dsp.bundleLimit ∧ (dspEnd reason after s).dsp.rejectCap = s.dsp.rejectCap
    ∧ (dspEnd reason after s).dsp.retractCap = s.dsp.retractCap
    ∧ (dspEnd reason after s).dsp.retractCount = s.dsp.retractCount := by
  unfold dspEnd
  dsimp only
  split <;> simp

theorem dspEnd_fifo_mem (reason : EndReason) (after : DspState) (s : State) {p : FifoPos} (h : p ∈ s.biu.fifo) :
    p ∈ (dspEnd reason after s).biu.fifo := by
  unfold dspEnd
  dsimp only
  split <;> exact queueEvent_fifo_mem _ _ _ (by simpa using h)

/-- What `dspRestart` leaves of dispense, drawer and FIFO. -/
structure DispenseLeft (s t : State) : Prop where
  bundles : t.dsp.bundleLimit = s.dsp.bundleLimit
  bins    : t.dsp.rejectCap = s.dsp.rejectCap ∧ t.dsp.retractCap = s.dsp.retractCap ∧ t.dsp.retractCount = s.dsp.retractCount
  drw     : t.drw.state = s.drw.state ∧ t.drw.takeTimeout = s.drw.takeTimeout ∧ t.drw.depositTimeout = s.drw.depositTimeout
  fifo    : ∀ p ∈ s.biu.fifo, p ∈ t.biu.fifo

theorem dspEnd_left {b : State} (reason : EndReason) (after : DspState) (hdsp : b.dsp = s.dsp) (hfifo : b.biu.fifo = s.biu.fifo)
    (hdrw : b.drw.state = s.drw.state ∧ b.drw.takeTimeout = s.drw.takeTimeout ∧ b.drw.depositTimeout = s.drw.depositTimeout) :
    DispenseLeft s (dspEnd reason after b) := by
  obtain ⟨hbundle, hreject, hcap, hcount⟩ := dspEnd_keepsBins reason after b
  rw [hdsp] at hbundle hreject hcap hcount
  exact ⟨hbundle, ⟨hreject, hcap, hcount⟩, by simpa using hdrw, fun p hp => dspEnd_fifo_mem _ _ _ (hfifo ▸ hp)⟩

theorem dspRestart_left (s : State) : DispenseLeft s (dspRestart s) := by
  have hunchanged : DispenseLeft s s := ⟨rfl, ⟨rfl, rfl, rfl⟩, ⟨rfl, rfl, rfl⟩, fun _ => id⟩
  have hended : ∀ reason after, DispenseLeft s (dspEnd reason after s) := fun reason after =>
    dspEnd_left reason after rfl rfl ⟨rfl, rfl, rfl⟩
  unfold dspRestart
  split
  · exact hunchanged
  · exact hunchanged
  · split
    · exact hended _ _
    · exact hunchanged
  · unfold dspEndReserving
    split
    · split
      · exact ⟨rfl, ⟨rfl, rfl, rfl⟩, ⟨rfl, rfl, rfl⟩, fun _ => id⟩
      · exact hunchanged
    · exact dspEnd_left _ _ rfl rfl ⟨rfl, rfl, rfl⟩
  · exact dspEnd_left _ _ rfl rfl ⟨rfl, rfl, rfl⟩
  all_goals exact hended _ _

/-! ### The kept reply position -/

theorem mem_fillPos {what : Reservation} (f : FifoPos) {l : List FifoPos} (h : .reserved what ∈ l) : f ∈ fillPos what f l := by
  induction l with
  | nil => cases h
  | cons p rest ih =>
    unfold fillPos
    split
    · exact List.mem_cons_self
    next hp => exact List.mem_cons_of_mem _ (ih ((List.mem_cons.1 h).resolve_left fun he => hp he.symm))

/-! ### The acts put together -/

/-- The state after a restart's later acts, with what they have made of transport, drawer, intake and alarms. -/
def lateActs (s : State) (n : Ntg) (d : Drw) (i : InkState) (a : Alm) (f : Bool) : State := { s with
  ntg := n, drw := d, ink.state := i, alm := a, biu.alarmFlag := f, lsv.serviceTimer := none, lsv.heldFault := false,
  pt.listenIn := none, cmd.owner := none, lsv.heldRestarts := [],
  biu.fifo := s.lsv.heldRestarts.foldl
    (fun fifo r => fillPos .restart (.frame { kind := 48, dest := r.1, payload := [r.2, 35, 0] }) fifo) s.biu.fifo }

/-- What enters PURGING at the end of a restart, where no dispense is left and the drawer was not jammed with both switches active. -/
theorem restartTail_composes (hended : s.dsp.state.ended)
    (hdrawer : s.drw.state ≠ .jammed ∨ s.lines.home = false ∨ s.lines.ext = false) :
    ∃ n d i a f, restartTail s = enterPurging (lateActs s n d i a f) ∧ n.gateLength = s.ntg.gateLength ∧ Dealt s.drw d
      ∧ i ≠ .waiting ∧ a.serviceWindow = false ∧ a.loops = s.alm.loops
      ∧ (s.alm.serviceWindow = false → a.latch = s.alm.latch) := by
  obtain ⟨d, hd, hdealt⟩ := drawerRestart_dealt (s := { s with
    ntg.order := none, ntg.state := if s.ntg.state = .halted then .halted else .idle,
    ntg.valid := s.ntg.valid && decide (s.ntg.state ≠ .baseline) }) hdrawer
  have htail := restartTail_eq (s := s) hd.symm rfl rfl
  obtain ⟨a, d', f, hw, hwindow, hloops, hlatch, hd'⟩ := closeServiceWindow_ended (s := { s with
    ntg.order := none, ntg.state := if s.ntg.state = .halted then .halted else .idle,
    ntg.valid := s.ntg.valid && decide (s.ntg.state ≠ .baseline), drw := d,
    ink.state := if s.ink.state = .waiting then .idle else s.ink.state,
    lsv.serviceTimer := none, lsv.heldFault := false, pt.listenIn := none }) hended
  rw [hw, answerRestarts_eq] at htail
  refine ⟨_, d', _, a, f, htail, ?_, ?_, ?_, hwindow, hloops, hlatch⟩
  · rfl
  · obtain rfl | rfl := hd'
    · exact hdealt
    · exact hdealt.after_lockdownOrder
  · split
    · simp
    · assumption

/-- The settling after a restart: no intake waits, no request is posted, no pick can fire. -/
theorem settle_lateActs {n : Ntg} {d : Drw} {i : InkState} {a : Alm} {f : Bool} (hd : Dealt s.drw d) (hi : i ≠ .waiting) :
    Entered (lateActs s n d i a f) (enterPurging (lateActs s n d i a f))
      ∧ Dealt s.drw (enterPurging (lateActs s n d i a f)).drw
      ∧ settle (enterPurging (lateActs s n d i a f)) = settlePkt (enterPurging (lateActs s n d i a f)) := by
  have hentered : Entered _ (enterPurging (lateActs s n d i a f)) := enterPurging_entered hd.free hi
  have hdealt : Dealt s.drw (enterPurging (lateActs s n d i a f)).drw := by
    obtain he | he := hentered.drw
    · rw [he]; exact hd
    · rw [he]; exact hd.after_retractOrder
  exact ⟨hentered, hdealt, settle_entered hentered hdealt.unasked⟩

end

section

variable {s q : State} {source : Station} {tag : Byte} {lines : Lines}

theorem restart_answers (h : Taken s source 35 [tag]) (hq : q = { atCommand s source with
    lines := lines, lsv.heldRestarts := s.lsv.heldRestarts ++ [(source, tag)],
    biu.fifo := fillPos .reply (.reserved .restart) s.biu.fifo }) :
    (s.lsv.lane = .awaitConfig → exec (.restart source [tag] lines) s
      = .next (replied source tag 35 .badState [] (atCommand s source))) ∧
    (s.lsv.lane ≠ .awaitConfig → exec (.restart source [tag] lines) s = .next (settle (restart q))) := by
  have hfifo : (atCommand s source).biu.fifo = s.biu.fifo := by simp [atCommand]
  refine ⟨fun hl => ?_, fun hl => ?_⟩
  · exact command_answers h rfl (checked_refused _ (by simp [hl]) _)
  · have hserve : checked [(decide ((atCommand s source).lsv.lane = .awaitConfig), .badState)]
        (fun v => takeRestart source tag (sample lines v)) (atCommand s source) = (settle (restart q), none) := by
      rw [checked_eq (by simp [hl]), hq, ← hfifo, ← atCommand_lsv s source]
      rfl
    exact (act_eq _ _).trans (congrArg _ ((onCommand_taken s h rfl _).trans (by rw [List.headD_cons, hserve]; rfl)))

end

end Sys2Proof.Machine
end

section
/-!
PROOF. RESTART: what it is by the lane, and that every act is the one that is stated.
-/

namespace Sys2Proof.Machine

open Sys2Proof

/-- The restart that is not held finds its own reply's position and is answered there, where no restart was held before it. -/
theorem lateActs_replies {s q : State} {source : Station} {tag : Byte} {lines : Lines} (hheld : s.lsv.heldRestarts = [])
    (hr : .reserved .reply ∈ s.biu.fifo) (hq : q = { atCommand s source with
      lines := lines, lsv.heldRestarts := s.lsv.heldRestarts ++ [(source, tag)],
      biu.fifo := fillPos .reply (.reserved .restart) s.biu.fifo }) {n : Ntg} {d : Drw} {i : InkState} {a : Alm} {f : Bool} :
    .frame { kind := 48, dest := source, payload := [tag, 35, 0] } ∈ (lateActs (dspRestart q) n d i a f).biu.fifo := by
  have hrestarts : (dspRestart q).lsv.heldRestarts = [(source, tag)] := by simp [hq, hheld]
  have hkept : .reserved .restart ∈ q.biu.fifo := by
    rw [hq]
    exact mem_fillPos _ hr
  rw [lateActs, hrestarts]
  exact mem_fillPos _ ((dspRestart_left q).fifo _ hkept)

/-- Settles O28: each act by its own equation, and what the acts keep by following them through (`restartTail_composes`). -/
theorem restartEntersPurging : Obligations.RestartEntersPurging := by
  refine ⟨fun s q source tag lines ht hq => ?_, fun s => ⟨dspRestart_resting, dspRestart_purging, dspRestart_reserving,
    dspRestart_stacked, dspRestart_working⟩, fun s d i w hd hi hclosed hopen => ?_, fun what f p rest => ⟨rfl, rfl⟩,
    fun s p d hp hd => enterPurging_eq s hp hd, fun s d hd => ?_⟩
  · obtain ⟨hrefused, hacts⟩ := restart_answers ht hq
    have hstate : q.dsp.state = s.dsp.state := by simp [hq]
    have hpending : q.dsp.pendingEnd = s.dsp.pendingEnd := by simp [hq]
    have hsending : q.reserveSending = s.reserveSending := by simp [hq, State.reserveSending, State.sending, atCommand]
    refine ⟨hrefused, fun hl hr hs => ?_, fun hl hn => ?_⟩
    · rw [hacts hl, restart_held (hstate.trans hr) (hsending.trans hs), hpending]
    · rw [← hstate, ← hsending] at hn
      have hexec : exec (.restart source [tag] lines) s = .next (settle (restartTail (dspRestart q))) := by
        rw [hacts hl, restart_acts hn]
      refine ⟨hexec, fun hdrawer => ⟨_, hexec, ?_⟩⟩
      obtain ⟨hbundles, ⟨hrejectCap, hretractCap, hretractCount⟩, ⟨hdrw, htake, hdeposit⟩, -⟩ := dspRestart_left q
      obtain ⟨n, d, i, a, f, he, hgate, hd, hi, hwindow, hloops, hlatch⟩ := restartTail_composes (dspRestart_ended hn)
        (by simpa [hdrw, hq, atCommand] using hdrawer)
      obtain ⟨hentered, hdealt, hsettle⟩ := settle_lateActs (a := a) (f := f) (n := n) hd hi
      have hkept := enterPurging_keeps (lateActs (dspRestart q) n d i a f)
      rw [he, hsettle]
      generalize enterPurging (lateActs (dspRestart q) n d i a f) = e at hentered hdealt hkept
      obtain ⟨hlane, hdsp, hdispensing, hbundle, ⟨hcap, htcap, hcount⟩, hntg, -, -, hlisten, ⟨found, hpocket⟩, hfifo⟩ := hentered
      obtain ⟨-, -, hpurpose, hobstructions, htakeTime, hdepositTime⟩ := hdealt
      simp only [settlePkt_keeps, hkept, hlane, hdsp, hdispensing, hbundle, hcap, htcap, hcount, hntg, hlisten, hpocket,
        hpurpose, hobstructions, htakeTime, hdepositTime, ntgPurge_state, ntgPurge_order, ntgPurge_diverter, ne_eq,
        not_false_eq_true, true_and]
      have hgateLength : (ntgPurge n).gateLength = s.ntg.gateLength := by
        refine hgate.trans ?_
        simp [hq, atCommand_keeps]
      simp only [lateActs, hwindow, hloops, hbundles, hrejectCap, hretractCap, hretractCount, htake, hdeposit, dspRestart_keeps,
        hgateLength, true_and] at hlatch ⊢
      simp only [hq, atCommand_keeps, true_and] at hlatch ⊢
      exact ⟨hlatch, ⟨found, rfl⟩, fun hheld hr => hfifo _ (lateActs_replies hheld hr hq)⟩
  · have hia : i.alm = d.alm := by rw [hi]
    rw [← hia] at hclosed hopen
    rw [restartTail_eq hd hi (closeServiceWindow_unique hclosed hopen), answerRestarts_eq]
  · have hdd : d = drawerDropped s.drw := hd
    refine ⟨fun h => ?_, fun h => ⟨fun hl => ?_, fun hl he => ?_, fun hl he => ?_⟩⟩
    · rw [drawerRestart_moves h, hdd]
    · rw [drawerRestart_drivenIn h hl, hdd]
      rfl
    · rw [drawerRestart_home h hl he, hdd]
    · rw [drawerRestart_bothActive h hl he, hdd]

end Sys2Proof.Machine
end

section
/-!
PROOF. A console command by its frame: acknowledged here or not, and of a kind and length in the table or not.
-/

namespace Sys2Proof.Machine

open Sys2Proof

/-- BAD_COMMAND of a kind and length outside the table is a command like the others, and one inside the table does nothing (R173). -/
theorem badCommand_acts {kind : BitVec 7} {payload : List Byte} (source : Station) (s : State) :
    (lengthAllowed kind payload.length = false ∧ exec (.badCommand source kind payload) s
        = act (onCommand kind source payload fun _ => refuse .badParam) s)
    ∨ (lengthAllowed kind payload.length = true ∧ exec (.badCommand source kind payload) s = .next (begun s)) := by
  cases hl : lengthAllowed kind payload.length with
  | false => exact .inl ⟨rfl, by simp [exec, execBadCommand, act_eq, hl]⟩
  | true => exact .inr ⟨rfl, by simp [exec, execBadCommand, act_eq, hl]⟩

/-- Every console command is its frame with the service of its block, apart from a BAD_COMMAND that is none (R172, R173). -/
theorem consoleCommand_acts {c : Instr} {source : Station} {kind : BitVec 7} {payload : List Byte}
    (h : consoleCommand c = some (source, kind, payload)) (s : State) :
    (∃ serve, exec c s = act (onCommand kind source payload serve) s)
    ∨ (c = .badCommand source kind payload ∧ lengthAllowed kind payload.length = true ∧ exec c s = .next (begun s)) := by
  cases c
  case badCommand =>
    cases h
    obtain ⟨-, he⟩ | ⟨hl, he⟩ := badCommand_acts source s
    · exact .inl ⟨_, he⟩
    · exact .inr ⟨rfl, hl, he⟩
  all_goals cases h
  all_goals exact .inl ⟨_, rfl⟩

/-- Settles O16: every console command is its frame with a service, and these frames reach none (`consoleCommand_acts`). -/
theorem untakenAndBadCommands : Obligations.UntakenAndBadCommands := by
  unfold Obligations.UntakenAndBadCommands
  intro c s source kind payload hc
  obtain ⟨serve, he⟩ | ⟨hbad, hl, he⟩ := consoleCommand_acts hc s
  · rw [he, act_eq]
    refine ⟨fun _ hj ha => ?_, fun hj => ?_, fun tag rest hp ht hl => ?_⟩
    · rw [onCommand_untaken s hj ha]
    · rw [onCommand_unjoined s hj]
    · subst hp
      rw [onCommand_bad s ht hl]
      simp [atCommand_keeps]
  · refine ⟨fun hno => ?_, fun _ => he, fun _ _ _ _ hno => ?_⟩
    · exact absurd hl (by simp [hno _ _ _ hbad])
    · exact absurd hl (by simp [hno])

end Sys2Proof.Machine
end

section
/-!
PROOF. The own frames that complete, by the item they carried.
-/

namespace Sys2Proof.Machine

open Sys2Proof

section

variable {s : State} {a : Attempt} (ha : s.biu.attempt = some a) (heard : Bool)

include ha

/-! ### The end by the item (R128, R134, R139, R147, R170) -/

theorem completeAttempt_alarm (hi : a.item = .alarm) : completeAttempt heard s
    = { attemptCompleted heard s with biu.alarmFlag := s.alm.latchChanged, alm.latchChanged := false } := by
  simp [completeAttempt, ha, hi]

theorem completeAttempt_status (hi : a.item = .status) :
    completeAttempt heard s = clearSticky a.payload (statusEnded (attemptCompleted heard s)) := by
  simp [completeAttempt, ha, hi]

theorem completeAttempt_fifo {f : OutFrame} (hi : a.item = .fifo f) :
    completeAttempt heard s = dropFifo f (attemptCompleted heard s) := by
  simp [completeAttempt, ha, hi]

theorem completeAttempt_release {n : Nat} (hi : a.item = .wall (.release n)) :
    completeAttempt heard s = setOwnExposure 0 (dropWall (.release n) (attemptCompleted heard s)) := by
  simp [completeAttempt, ha, hi]

/-! ### The rows that tell it -/

theorem ownAttemptCompleted_acts :
    exec (.ownAttemptCompleted heard) s = .next (settle (completeAttempt heard (begun s))) := by
  have hb : (begun s).biu.attempt = some a := ha
  simp [exec, execOwnAttemptCompleted, act_eq, hb]

theorem ownAlarmCompleted_acts (hi : a.item = .alarm) :
    exec (.ownAlarmCompleted heard) s = .next (completeAttempt heard (begun s)) := by
  have hb : (begun s).offered = some .alarm := by simp [State.offered, begun, ha, hi]
  simp [exec, execOwnAlarmCompleted, act_eq, hb]

theorem ownStatusCompleted_acts (hi : a.item = .status) :
    exec (.ownStatusCompleted heard) s = .next (completeAttempt heard (begun s)) := by
  have hb : (begun s).offered = some .status := by simp [State.offered, begun, ha, hi]
  simp [exec, execOwnStatusCompleted, act_eq, hb]

end

/-- Settles O9: each row ends the attempt (`ownAttemptCompleted_acts` and the rows of its kind), which ends by its item. -/
theorem ownFramesComplete : Obligations.OwnFramesComplete := by
  unfold Obligations.OwnFramesComplete
  intro s b a heard ha hb
  have hbegun : (begun s).biu.attempt = some a := ha
  have hdone : attemptCompleted heard (begun s) = b := hb.symm
  have hfifo : b.biu.fifo = s.biu.fifo := by simp [hb, begun]
  have hwall : b.biu.wallQueue = s.biu.wallQueue := by simp [hb, begun]
  have hpt : b.pt.quietEnded = s.pt.quietEnded ∧ b.pt.stuckSeen = s.pt.stuckSeen := by simp [hb, begun]
  refine ⟨fun hi => ?_, fun hi => ?_, fun f hi => ?_, fun n hi => ?_⟩
  · rw [ownAlarmCompleted_acts ha heard hi, ownAttemptCompleted_acts ha, completeAttempt_alarm hbegun heard hi, hdone]
    exact ⟨rfl, rfl⟩
  · rw [ownStatusCompleted_acts ha heard hi, completeAttempt_status hbegun heard hi, hdone, ← hpt.1, ← hpt.2]
    rfl
  · rw [ownAttemptCompleted_acts ha, completeAttempt_fifo hbegun heard hi, hdone, ← hfifo]
    rfl
  · rw [ownAttemptCompleted_acts ha, completeAttempt_release hbegun heard hi, hdone, ← hwall]
    rfl

end Sys2Proof.Machine
end

section
/-!
PROOF. The rows of other stations' frames: clean or in error, broadcast or not, and what RESERVE and RELEASE set.
-/

namespace Sys2Proof.Machine

open Sys2Proof

/-! ### What a station finds in a frame (R159, R160, R163 to R166) -/

theorem malformed_iff (f : RxFrame) : malformed f = true ↔ FormErrorIn f := by
  rw [malformed, Bool.or_eq_true, decide_eq_true_iff]
  exact Iff.rfl

theorem cleanHere_iff (f : RxFrame) : cleanHere f = true ↔ rxCrc f = f.crc ∧ ¬ FormErrorIn f := by
  simp [cleanHere, crcMatches, ← malformed_iff]

theorem drivesSlots_iff (s : State) : s.drivesSlots = true ↔ MayAnswer s := by
  simp [State.drivesSlots, MayAnswer, and_assoc]

/-- A station voids the frames whose error it may answer: a form error always, another CRC unless its own frame is on the line. -/
theorem voids_iff (f : RxFrame) (s : State) : s.voids f = true
    ↔ MayAnswer s ∧ (FormErrorIn f ∨ (rxCrc f ≠ f.crc ∧ s.biu.attempt = none)) := by
  have hbreaks : s.breaks f = true ↔ MayAnswer s ∧ FormErrorIn f := by
    rw [State.breaks, Bool.and_eq_true, drivesSlots_iff, malformed_iff]
  have hobjects : s.objects f = true ↔ ((MayAnswer s ∧ s.biu.attempt = none) ∧ ¬ FormErrorIn f) ∧ rxCrc f ≠ f.crc := by
    rw [State.objects, Bool.and_eq_true, Bool.and_eq_true, Bool.and_eq_true, drivesSlots_iff, Option.isNone_iff_eq_none,
      Bool.not_eq_true', ← Bool.not_eq_true, malformed_iff, Bool.not_eq_true', crcMatches, decide_eq_false_iff_not]
  rw [State.voids, Bool.or_eq_true, hbreaks, hobjects]
  constructor
  · rintro (⟨hm, hform⟩ | ⟨⟨⟨hm, hnone⟩, -⟩, hcrc⟩)
    · exact ⟨hm, .inl hform⟩
    · exact ⟨hm, .inr ⟨hcrc, hnone⟩⟩
  · rintro ⟨hm, hform | ⟨hcrc, hnone⟩⟩
    · exact .inl ⟨hm, hform⟩
    · by_cases hform : FormErrorIn f
      · exact .inl ⟨hm, hform⟩
      · exact .inr ⟨⟨⟨hm, hnone⟩, hform⟩, hcrc⟩

/-! ### The row of a frame -/

/-- The command is the row of a frame: the frame has its effect if it is in force here, and what follows its end comes after it, unless
this station voids the frame (R129, R166; log 35). -/
def IsFrameRow (c : Instr) (f : RxFrame) (ended effect : State → State) : Prop :=
  ∀ s, exec c s = act (fun s => when s.joined (unlessVoided f fun s => ended (receive f effect s)) s) s

theorem presenceOnlyFrame_row (f : RxFrame) : IsFrameRow (.presenceOnlyFrame f) f id id := fun _ => rfl

theorem reserveReceived_row (f : RxFrame) :
    IsFrameRow (.reserveReceived f) f id (carrying 1 kindReserve f (onReserve f.source f.payload)) := fun _ => rfl

theorem releaseReceived_row (f : RxFrame) :
    IsFrameRow (.releaseReceived f) f id (carrying 1 kindRelease f (onRelease f.source f.payload)) := fun _ => rfl

/-- A frame heard from another station than the own makes its record PRESENT (R129). -/
theorem hear_other {source : Station} {s : State} (h : source ≠ s.lsv.station) : hear source s
    = setPeer source (fun p => { p with present := true, age := 0 }) { s with biu.voidCount := 0, biu.broken := false } := by
  simp [hear, h]

/-- A frame under the own number reaches no record (R128). -/
theorem hear_own {source : Station} {s : State} (h : source = s.lsv.station) :
    hear source s = { s with biu.voidCount := 0, biu.broken := false } := by
  simp [hear, h]

/-- The ACK slot is driven in a broadcast alone (R165). -/
theorem ackSlot_not_broadcast {f : RxFrame} (s : State) (h : f.dest ≠ everyStation) : ackSlot f s = s := by
  simp [ackSlot, h]

/-- What a clean broadcast under the own number does: it is acknowledged, and its content is applied to no record. -/
theorem receive_own_broadcast {s : State} {source : Station} (cls : BitVec 3) (kind : BitVec 7) {payload : List Byte}
    (effect : State → State) (hj : s.joined = true) (hs : source = s.lsv.station) (h : payload.length ≤ 24) :
    receive (broadcast cls source kind payload) effect (begun s) = heard s := by
  have hc := cleanHere_broadcast cls source kind payload h
  have hj' : (begun s).joined = true := hj
  have hheard : hear source (begun s) = { begun s with biu.voidCount := 0, biu.broken := false } := hear_own hs
  rw [receive_own (begun s) _ _ hj hc hs]
  unfold ackSlot heard ackDrives
  rw [hc, show (broadcast cls source kind payload).dest = everyStation from rfl,
    show (broadcast cls source kind payload).source = source from rfl, hear_drivesSlots, hj', hheard]
  by_cases hdrives : s.biu.quiet = none ∧ s.biu.stuck = false ∧ s.biu.attempt = none
  · obtain ⟨hq, hst, hat⟩ := hdrives
    simp [hq, hst, hat, drive, begun]
  · have hnone : (s.biu.quiet.isNone && !s.biu.stuck && s.biu.attempt.isNone) = false :=
      Bool.eq_false_iff.2 fun h => hdrives (by simpa [and_assoc] using h)
    simp [hnone, hdrives, begun]

namespace IsFrameRow

variable {c : Instr} {f : RxFrame} {ended effect : State → State}

/-- A lane in STARTING hears no frame (R171). -/
theorem unjoined (hc : IsFrameRow c f ended effect) {s : State} (hj : s.joined = false) : exec c s = .next (begun s) := by
  have hj' : (begun s).joined = false := hj
  rw [hc s, act_eq, hj', when_false]

theorem of_joined (hc : IsFrameRow c f ended effect) {s : State} (hj : s.joined = true) :
    exec c s = .next (unlessVoided f (fun s => ended (receive f effect s)) (begun s)) := by
  have hj' : (begun s).joined = true := hj
  rw [hc s, act_eq, hj', when_true]

theorem of_clean (hc : IsFrameRow c f ended effect) {s : State} (hj : s.joined = true) (hf : cleanHere f = true) :
    exec c s = .next (ended (receive f effect (begun s))) := by
  rw [hc.of_joined hj, unlessVoided_clean _ _ _ hf]

/-- An error that the station answers ends the frame as FRAME_VOIDED does, and one it cannot answer leaves it in force nowhere. -/
theorem errorRow (hc : IsFrameRow c f ended effect) (s : State) : ErrorRow s f c ended where
  voided hm he := by
    have hj' : (begun s).joined = true := hm.1
    have hv : (begun s).voids f = true := (voids_iff f _).2 ⟨hm, he⟩
    rw [hc.of_joined hm.1, unlessVoided, if_pos hv]
    simp [exec, execFrameVoided, act_eq, hj']
  ignored hj he hno := by
    have hv : (begun s).voids f ≠ true := fun h => by
      obtain ⟨hm, hform | ⟨-, hnone⟩⟩ := (voids_iff f _).1 h
      · exact hno.elim (fun h => h hm) fun h => h.1 hform
      · exact hno.elim (fun h => h hm) fun h => h.2 hnone
    have hf : cleanHere f = false := Bool.eq_false_iff.2 fun h => by
      obtain ⟨hcrc, hform⟩ := (cleanHere_iff f).1 h
      exact he.elim hform fun h => h hcrc
    rw [hc.of_joined hj, unlessVoided, if_neg hv, receive_unclean _ _ _ (by rw [hf, Bool.and_false])]

/-- A clean frame to another station counts for presence, and draws nothing from this one. -/
theorem not_broadcast (hc : IsFrameRow c f ended effect) {s : State} (hj : s.joined = true) (hf : cleanHere f = true)
    (hd : f.dest ≠ everyStation) (heffect : ∀ t, effect t = t) : exec c s = .next (ended (hear f.source (begun s))) := by
  rw [hc.of_clean hj hf]
  by_cases hs : f.source = s.lsv.station
  · rw [receive_own (begun s) _ _ hj hf hs, ackSlot_not_broadcast _ hd]
  · rw [receive_clean (begun s) _ _ hj hf hs, ackSlot_not_broadcast _ hd, heffect]

variable {s : State} {source : Station} {cls : BitVec 3} {kind : BitVec 7} {payload : List Byte}

theorem of_broadcast (hc : IsFrameRow c (broadcast cls source kind payload) ended effect) (hj : s.joined = true)
    (hs : source ≠ s.lsv.station) (h : payload.length ≤ 24) : exec c s = .next (ended (effect (received source id s))) := by
  rw [hc.of_clean hj (cleanHere_broadcast cls source kind payload h), receive_broadcast s _ _ _ _ _ hj hs h]

theorem of_own_broadcast (hc : IsFrameRow c (broadcast cls source kind payload) ended effect) (hj : s.joined = true)
    (hs : source = s.lsv.station) (h : payload.length ≤ 24) : exec c s = .next (ended (heard s)) := by
  rw [hc.of_clean hj (cleanHere_broadcast cls source kind payload h), receive_own_broadcast _ _ _ hj hs h]

end IsFrameRow

/-! ### Content (R130, R137, R139) -/

/-- A frame to one station carries no content of a broadcast. -/
theorem carrying_not_broadcast {f : RxFrame} (cls : BitVec 3) (kind : Nat) (effect : State → State) (h : f.dest ≠ everyStation)
    (s : State) : carrying cls kind f effect s = s :=
  if_neg fun hf => h hf.2.2

/-- A broadcast carries the content of its own class and kind. -/
theorem carrying_broadcast (cls : BitVec 3) (source : Station) (kind : BitVec 7) (payload : List Byte) (effect : State → State)
    (s : State) : carrying cls kind.toNat (broadcast cls source kind payload) effect s = effect s :=
  if_pos ⟨rfl, rfl, rfl⟩

/-- A record changed twice is changed once, by one change after the other. -/
theorem setPeer_setPeer (n : Station) (f g : Peer → Peer) (s : State) :
    setPeer n g (setPeer n f s) = setPeer n (fun p => g (f p)) s := by
  simp only [setPeer, modifyPeer]
  split <;> simp

/-- What a frame carries to its record, it carries as it is received. -/
theorem setPeer_received (source : Station) (carry : Peer → Peer) (s : State) :
    setPeer source carry (received source id s) = received source carry s := setPeer_setPeer source _ _ _

theorem onReserve_received {source : Station} (s : State) (h : isLane source = true) (x y z : Byte) :
    onReserve source [x, y, z] (received source id s)
      = received source (fun p => { p with exposure := beNat [x, y, z] }) s :=
  (if_pos (And.intro h rfl)).trans (setPeer_received source _ s)

theorem onRelease_received {source : Station} (s : State) (h : isLane source = true) (x y z : Byte) :
    onRelease source [x, y, z] (received source id s) = received source (fun p => { p with exposure := 0 }) s :=
  (if_pos (And.intro h rfl)).trans (setPeer_received source _ s)

/-- A RESERVE or a RELEASE of a console or of another length counts for presence only. -/
theorem exposure_unread {source : Station} {payload : List Byte} (s : State)
    (h : isLane source = false ∨ payload.length ≠ 3) :
    onReserve source payload s = s ∧ onRelease source payload s = s := by
  have hno : ¬ (isLane source = true ∧ payload.length = 3) := fun ⟨hl, hp⟩ => h.elim (by simp [hl]) fun h => h hp
  exact ⟨if_neg hno, if_neg hno⟩

/-- The three rows of this family are frame rows, with no effect for a frame that is no broadcast. -/
theorem exposureRow {c : Instr} {f : RxFrame}
    (h : c = .presenceOnlyFrame f ∨ c = .reserveReceived f ∨ c = .releaseReceived f) :
    ∃ effect, IsFrameRow c f id effect ∧ (f.dest ≠ everyStation → ∀ s, effect s = s) := by
  obtain rfl | rfl | rfl := h
  · exact ⟨_, presenceOnlyFrame_row f, fun _ _ => rfl⟩
  · exact ⟨_, reserveReceived_row f, carrying_not_broadcast 1 kindReserve _⟩
  · exact ⟨_, releaseReceived_row f, carrying_not_broadcast 1 kindRelease _⟩

/-- Settles O13: the three commands are frame rows (`IsFrameRow`), and a broadcast in force applies what it carries. -/
theorem presenceAndExposureFrames : Obligations.PresenceAndExposureFrames := by
  unfold Obligations.PresenceAndExposureFrames
  refine ⟨fun s source cls kind payload hlen => ⟨fun hj hs => ⟨?_, fun hl x y z => ?_, fun hno => ?_⟩, fun hj hs => ?_⟩,
    fun s f c hc => ?_⟩
  · exact (presenceOnlyFrame_row _).of_broadcast hj hs hlen
  · have hthree : [x, y, z].length ≤ 24 := by simp
    rw [(reserveReceived_row _).of_broadcast hj hs hthree, (releaseReceived_row _).of_broadcast hj hs hthree,
      ← onReserve_received s hl x y z, ← onRelease_received s hl x y z]
    exact ⟨congrArg _ (carrying_broadcast 1 source 8 _ _ _), congrArg _ (carrying_broadcast 1 source 9 _ _ _)⟩
  · obtain ⟨hreserve, hrelease⟩ := exposure_unread (received source id s) hno
    rw [(reserveReceived_row _).of_broadcast hj hs hlen, (releaseReceived_row _).of_broadcast hj hs hlen]
    exact ⟨congrArg _ ((carrying_broadcast 1 source 8 _ _ _).trans hreserve),
      congrArg _ ((carrying_broadcast 1 source 9 _ _ _).trans hrelease)⟩
  · exact ⟨(presenceOnlyFrame_row _).of_own_broadcast hj hs hlen, (reserveReceived_row _).of_own_broadcast hj hs hlen,
      (releaseReceived_row _).of_own_broadcast hj hs hlen⟩
  · obtain ⟨effect, hrow, heffect⟩ := exposureRow hc
    refine ⟨fun hj hcrc hform hd b hb => ?_, hrow.errorRow s, hrow.unjoined⟩
    have hexec := hrow.not_broadcast hj ((cleanHere_iff f).2 ⟨hcrc, hform⟩) hd (heffect hd)
    refine ⟨fun hs => ?_, fun hs => ?_⟩
    · rw [hexec, hear_other (s := begun s) hs, hb]
      rfl
    · rw [hexec, hear_own (s := begun s) hs, hb]
      rfl

end Sys2Proof.Machine
end

section
/-!
PROOF. The alarm unit's own rules: what forms the wall set, what a new latch starts, what ALARM_RESET leaves, and the steps of loops,
siren, ALARM_ACK and ALARM_RESET.
-/

namespace Sys2Proof.Machine

open Sys2Proof

section

variable {s : State} {kinds : AlarmSet}

/-! ### New latches (R145, R147, R151, R152) -/

theorem latchKinds_known (h : kinds.minus s.alm.latch = AlarmSet.empty) : latchKinds kinds s = s := if_pos h

/-- New kinds form the wall set and start the siren, energise the relay, or both. -/
theorem latchKinds_new {new : AlarmSet} {f : State} (hnew : new = kinds.minus s.alm.latch) (h : new ≠ AlarmSet.empty)
    (hf : f = formWall { s with alm.latch := s.alm.latch.union kinds, alm.latchChanged := true, biu.alarmFlag := true }) :
    latchKinds kinds s = { f with
      alm.siren := f.alm.siren || new.sounds, alm.sirenTimer := if new.sounds then some 180000 else f.alm.sirenTimer,
      alm.sirenOn := f.alm.sirenOn || new.sounds, alm.sirenToggle := if new.sounds then some 250 else f.alm.sirenToggle,
      alm.relay := f.alm.relay || new.duress } := by
  subst hnew
  rw [latchKinds]
  dsimp only
  rw [if_neg h, ← hf]
  cases (kinds.minus s.alm.latch).sounds <;> cases (kinds.minus s.alm.latch).duress <;>
    simp only [Bool.or_false, Bool.or_true] <;> rfl

/-- A new DURESS latch is silent: it energises the relay alone. -/
theorem latchKinds_duress (h : kinds.minus s.alm.latch = { AlarmSet.empty with duress := true }) :
    latchKinds kinds s = { formWall { s with
      alm.latch := s.alm.latch.union kinds, alm.latchChanged := true, biu.alarmFlag := true } with alm.relay := true } := by
  rw [latchKinds_new h.symm (by decide) rfl]
  simp [AlarmSet.sounds, AlarmSet.empty]

/-- New latches of the other kinds start the siren, or start it afresh. -/
theorem latchKinds_sounds (h : (kinds.minus s.alm.latch).sounds = true) (hd : (kinds.minus s.alm.latch).duress = false) :
    latchKinds kinds s = { formWall { s with
      alm.latch := s.alm.latch.union kinds, alm.latchChanged := true, biu.alarmFlag := true } with
      alm.siren := true, alm.sirenTimer := some 180000, alm.sirenOn := true, alm.sirenToggle := some 250 } := by
  rw [latchKinds_new rfl (fun he => by rw [he] at h; cases h) rfl]
  simp [h, hd]

/-! ### A loop's change (R143 to R146) -/

/-- A loop's change is followed; an enabled loop latches by its new class, and the blocks settle. -/
theorem loopChange_acts {loop : Slot} {cls : LoopClass} {b : State} (h : (s.alm.loops.get loop).state ≠ cls)
    (hb : b = { begun s with
      alm.loops := s.alm.loops.set loop { s.alm.loops.get loop with state := cls },
      lines.comparators := s.lines.comparators.set loop cls }) :
    exec (.loopChange loop cls) s = .next (if (s.alm.loops.get loop).enabled
      then settle (latchKinds (latchedBy loop cls s.alm.serviceWindow) b) else b) := by
  subst hb
  have hne : ((begun s).alm.loops.get loop).state ≠ cls := h
  simp only [exec, execLoopChange, act_eq, hne, decide_true, when_true, ne_eq, not_false_eq_true, loopLatches,
    Four.modify_eq_set, Four.get_set_same]
  rfl

/-- A loop that latches DURESS latches nothing else. -/
theorem latchedBy_duress (loop : Slot) (cls : LoopClass) (window : Bool) (h : (latchedBy loop cls window).duress = true) :
    latchedBy loop cls window = { AlarmSet.empty with duress := true } := by
  cases cls with
  | normal | short => cases h
  | opened =>
    cases loop with
    | one => rfl
    | two | four => cases h
    | three => cases window <;> cases h

end

/-- Settles O46: a loop's change by what it latches, the siren's two timers, and new latches of any kinds. -/
theorem alarmLoopsAndSiren : Obligations.AlarmLoopsAndSiren := by
  unfold Obligations.AlarmLoopsAndSiren
  refine ⟨fun s loop cls kind hne hkind b hb => ?_, fun s ms => ⟨fun h => ?_, fun h => ?_, fun h => ?_, fun h => ?_⟩,
    fun s f kinds new hnew hf => ⟨fun h => latchKinds_known (hnew ▸ h), fun h => latchKinds_new hnew h hf⟩⟩
  · have hlatched : latchedBy loop cls s.alm.serviceWindow = kind := by
      rw [hkind]
      cases cls with
      | normal | short => rfl
      | opened => cases loop <;> cases s.alm.serviceWindow <;> rfl
    have hlatch : b.alm.latch = s.alm.latch := by rw [hb]; rfl
    rw [loopChange_acts hne hb, hlatched]
    refine ⟨fun he => by simp [he], fun he => ?_⟩
    rw [if_pos he, ← hlatch]
    refine ⟨fun h => by rw [latchKinds_known h], fun h => by rw [latchKinds_duress h], fun h => ?_⟩
    rw [latchKinds_sounds h]
    cases hd : kind.duress with
    | false => simp [AlarmSet.minus, hd]
    | true =>
      rw [← hlatched, latchedBy_duress loop cls _ (hlatched ▸ hd)] at h
      simp [AlarmSet.minus, AlarmSet.sounds, AlarmSet.empty] at h
  · have ht : (begun s).alm.sirenToggle = some ms := h
    simp only [exec, execSirenToggle, act_eq, ht]
    rfl
  · have ht : (begun s).alm.sirenTimer = some ms := h
    simp only [exec, execSirenTimeout, act_eq, ht]
    rfl
  · have ht : (begun s).alm.sirenToggle = none := h
    simp only [exec, execSirenToggle, act_eq, ht]
    rfl
  · have ht : (begun s).alm.sirenTimer = none := h
    simp only [exec, execSirenTimeout, act_eq, ht]
    rfl

end Sys2Proof.Machine
end

section
/-!
PROOF. ALARM_ACK and ALARM_RESET: what the first stops, which kinds the second leaves, and what it makes of wall set, relay and siren.
-/

namespace Sys2Proof.Machine

open Sys2Proof

@[simp] theorem atCommand_alm (s : State) (source : Station) : (atCommand s source).alm = s.alm :=
  (hear_keeps source (begun s)).2.2.2.2.2.2.1

/-! ### What ALARM_RESET leaves (R154) -/

theorem AlarmLoop.not_released (l : AlarmLoop) : (!l.released) = (l.enabled && l.state != .normal) := by
  obtain ⟨state, enabled⟩ := l
  cases state <;> cases enabled <;> rfl

/-- A kind stays latched while its loop, or for TAMPER any loop by a short, still holds it. -/
theorem stillHeld_eq {loops : Four AlarmLoop} {latch left : AlarmSet}
    (hduress : left.duress = (latch.duress && loops.one.enabled && loops.one.state != .normal))
    (htamper : left.tamper = (latch.tamper && ((loops.two.enabled && loops.two.state != .normal)
      || loops.toList.any (fun l => l.enabled && l.state == .short))))
    (hcabinet : left.cabinet = (latch.cabinet && loops.three.enabled && loops.three.state != .normal))
    (hbin : left.bin = (latch.bin && loops.four.enabled && loops.four.state != .normal)) :
    stillHeld loops latch = left := by
  obtain ⟨duress, tamper, cabinet, bin⟩ := left
  simp only [stillHeld, AlarmLoop.not_released, AlarmSet.mk.injEq]
  refine ⟨?_, ?_, ?_, ?_⟩
  · exact (Bool.and_assoc _ _ _).symm.trans hduress.symm
  · exact htamper.symm
  · exact (Bool.and_assoc _ _ _).symm.trans hcabinet.symm
  · exact (Bool.and_assoc _ _ _).symm.trans hbin.symm

section

variable {s : State}

/-- The steps of an ALARM_RESET by what it leaves: nothing but the flag where it clears no kind, else wall set and relay; then the
siren stops unless a kind that sounds is left. -/
theorem alarmResetSteps_eq {left : AlarmSet} {after : State} (hleft : stillHeld s.alm.loops s.alm.latch = left)
    (hkept : left = s.alm.latch → after = { s with biu.alarmFlag := true })
    (hcleared : left ≠ s.alm.latch → after =
      { formWall { s with alm.latch := left, biu.alarmFlag := true, alm.latchChanged := true } with
        alm.relay := if s.alm.latch.duress && !left.duress then false else s.alm.relay }) :
    alarmResetSteps s = if left.sounds then after else stopSiren after := by
  unfold alarmResetSteps
  simp only [hleft]
  by_cases h : left = s.alm.latch
  · rw [hkept h, h]
    simp
  · obtain ⟨f, hf⟩ : ∃ f, f = formWall { s with alm.latch := left, biu.alarmFlag := true, alm.latchChanged := true } :=
      ⟨_, rfl⟩
    have hrelay : f.alm.relay = s.alm.relay := by simp [hf]
    rw [hcleared h, ← hf]
    simp only [ne_eq, h, not_false_eq_true, decide_true, Bool.or_true, if_true, ← hf]
    rw [← hrelay]
    cases s.alm.latch.duress && !left.duress <;> rfl

theorem alarmResetSteps_latch (s : State) : (alarmResetSteps s).alm.latch = stillHeld s.alm.loops s.alm.latch := by
  unfold alarmResetSteps
  dsimp only
  (repeat' split) <;> simp

end

/-- Settles O26: both by the lane state, ALARM_ACK by the siren, ALARM_RESET by what the loops still hold. -/
theorem alarmCommands : Obligations.AlarmCommands := by
  unfold Obligations.AlarmCommands
  intro s source tag
  have halm := atCommand_alm s source
  have hlocked : s.lsv.lane = .awaitConfig → ∀ effect,
      checked [((atCommand s source).lsv.lane = .awaitConfig, .badState)] effect (atCommand s source)
        = (atCommand s source, plain .badState) :=
    fun h effect => checked_refused _ (by simp [h]) effect
  have hfree : s.lsv.lane ≠ .awaitConfig → ∀ effect,
      checked [((atCommand s source).lsv.lane = .awaitConfig, .badState)] effect (atCommand s source)
        = effect (atCommand s source) :=
    fun h effect => checked_eq (by simp [h]) effect
  refine ⟨fun ht => ⟨fun h => ?_, fun h hon => ?_, fun h hoff => ?_⟩,
    fun ht => ⟨fun h => ?_, fun h left hduress htamper hcabinet hbin after hkept hcleared => ?_⟩⟩
  · exact command_answers ht rfl (hlocked h _)
  · refine command_answers ht rfl ((hfree h _).trans ?_)
    rw [halm, if_pos hon]
    rfl
  · refine command_answers ht rfl ((hfree h _).trans ?_)
    rw [halm, if_neg (by simp [hoff])]
  · exact command_answers ht rfl (hlocked h _)
  · have hleft : stillHeld (atCommand s source).alm.loops (atCommand s source).alm.latch = left := by
      rw [halm]
      exact stillHeld_eq hduress htamper hcabinet hbin
    refine command_answers ht rfl ((hfree h _).trans ?_)
    rw [← halm] at hkept hcleared
    rw [resetAlarms, alarmResetSteps_latch, hleft, alarmResetSteps_eq hleft hkept hcleared]
    by_cases he : left = AlarmSet.empty
    · rw [if_pos he, if_pos he, if_pos he]
      rfl
    · rw [if_neg he, if_neg he, if_neg he]
      rfl

end Sys2Proof.Machine
end

section
/-!
PROOF. LANE_OPEN, LANE_CLOSE and the service visit, with what the service window's end latches.
-/

namespace Sys2Proof.Machine

open Sys2Proof

@[simp] theorem atCommand_drw (s : State) (source : Station) : (atCommand s source).drw = s.drw :=
  (hear_keeps source (begun s)).2.2.2.1

section

variable {s : State} {source : Station}

theorem ownerPasses_atCommand : OwnerPasses (atCommand s source) source ↔ OwnerPasses s source := by
  rw [OwnerPasses, OwnerPasses, atCommand_owner]

/-! ### LANE_OPEN and LANE_CLOSE (R174, R184) -/

theorem serveLaneOpen_closed (h : s.lsv.lane = .closed) :
    serveLaneOpen source s = ({ s with lsv.lane := .opened, cmd.owner := some source }, plain .ok) := if_pos h

theorem serveLaneOpen_notOwner (h : s.lsv.lane ≠ .closed) (ho : ¬ OwnerPasses s source) :
    serveLaneOpen source s = (s, plain .notOwner) := by
  rw [serveLaneOpen, if_neg h]
  exact if_pos ((ownerFails_iff s source).2 ho)

theorem serveLaneOpen_badState (h : s.lsv.lane ≠ .closed) (ho : OwnerPasses s source) :
    serveLaneOpen source s = (s, plain .badState) := by
  rw [serveLaneOpen, if_neg h]
  exact if_neg (ownerFails_not ho)

theorem serveLaneClose_closes (h : OpenTo s source) (hd : s.dsp.state = .idle) (hp : s.drw.purpose = .none) :
    serveLaneClose source s = ({ s with lsv.lane := .closed, cmd.owner := none }, plain .ok) := by
  refine checked_eq (fun c hc => ?_) _
  rcases List.mem_append.1 hc with hc | hc
  · exact openChecks_pass h c hc
  · rw [List.mem_singleton.1 hc]
    simp [hd, hp]

theorem serveLaneClose_busy (h : OpenTo s source) (hb : s.dsp.state ≠ .idle ∨ s.drw.purpose ≠ .none) :
    serveLaneClose source s = (s, plain .busy) := by
  obtain ⟨hl, ho⟩ := h
  refine checked_refused s ?_ _
  rcases ho with ho | ho <;> simp [openChecks, hl, ho, hb]

theorem serveLaneClose_notOwner (h : s.lsv.lane = .opened) (ho : ¬ OwnerPasses s source) :
    serveLaneClose source s = (s, plain .notOwner) := by
  refine checked_refused s ?_ _
  simpa [openChecks, h, ownerFails] using (ownerFails_iff s source).2 ho

theorem serveLaneClose_service (h : s.lsv.lane = .service) : serveLaneClose source s = (s, plain .service) :=
  checked_refused s (by simp [openChecks, h]) _

theorem serveLaneClose_laneClosed (hs : s.lsv.lane ≠ .service) (ho : s.lsv.lane ≠ .opened) :
    serveLaneClose source s = (s, plain .laneClosed) :=
  checked_refused s (by simp [openChecks, hs, ho]) _

/-! ### The end of a service visit (R146, R184, R185) -/

/-- The service timer stops, the window closes with what that latches, and the lane is CLOSED, or in FAULT by a held report. -/
theorem endService_eq {b w left : State} (hopen : b.alm.serviceWindow = true)
    (hw : w = { b with lsv.serviceTimer := none, alm.serviceWindow := false })
    (hquiet : b.alm.loops.three.enabled = false ∨ b.alm.loops.three.state = .normal ∨ b.alm.latch.cabinet = true → left = w)
    (hlatches : b.alm.loops.three.enabled = true → b.alm.loops.three.state ≠ .normal → b.alm.latch.cabinet = false →
      left = { formWall { w with alm.latch.cabinet := true, alm.latchChanged := true, biu.alarmFlag := true } with
        alm.siren := true, alm.sirenTimer := some 180000, alm.sirenOn := true, alm.sirenToggle := some 250 }) :
    endService b = { left with lsv.lane := if b.lsv.heldFault then .fault else .closed, lsv.heldFault := false } := by
  have hlatch : w.alm.latch = b.alm.latch := by rw [hw]
  have hclosed : left = closeServiceWindow { b with lsv.serviceTimer := none } := by
    refine closeServiceWindow_unique (fun h => Bool.noConfusion (hopen.symm.trans h)) fun _ => ⟨fun h => ?_, fun he hn => ?_⟩
    · rw [hquiet (h.imp_right .inl), hw]
    · change left = latchKinds _ { b with lsv.serviceTimer := none, alm.serviceWindow := false }
      rw [← hw]
      cases hc : b.alm.latch.cabinet with
      | true =>
        rw [hquiet (.inr (.inr hc)), latchKinds_known]
        simp [AlarmSet.minus, AlarmSet.empty, hlatch, hc]
      | false =>
        rw [hlatches he hn hc, latchKinds_sounds]
        · simp [AlarmSet.union, AlarmSet.empty, hlatch]
        · simp [AlarmSet.minus, AlarmSet.sounds, AlarmSet.empty, hlatch, hc]
        · simp [AlarmSet.minus, AlarmSet.empty]
  have hlsv : left.lsv = { b.lsv with serviceTimer := none } := by rw [hclosed]; simp
  rw [endService, ← hclosed, hlsv]

end

/-- Settles O17: each command by its checks in order, and one end of a service visit for SERVICE_END and the timer. -/
theorem laneOpenCloseAndService : Obligations.LaneOpenCloseAndService := by
  unfold Obligations.LaneOpenCloseAndService
  refine ⟨fun s source tag => ?_, fun s source tag => ?_⟩
  · have hlsv := atCommand_lsv s source
    have hdsp := atCommand_dsp s source
    have hdrw := atCommand_drw s source
    refine ⟨fun ht => ⟨fun h => ?_, fun h ho => ?_, fun h ho => ?_⟩,
      fun ht => ⟨fun h hd hp => ?_, fun h hb => ?_, fun h ho => ?_, fun h => ?_, fun hs ho => ?_⟩⟩
    · exact command_answers ht rfl (serveLaneOpen_closed (hlsv ▸ h))
    · exact command_answers ht rfl (serveLaneOpen_badState (hlsv ▸ h) (ownerPasses_atCommand.2 ho))
    · exact command_answers ht rfl (serveLaneOpen_notOwner (hlsv ▸ h) (mt ownerPasses_atCommand.1 ho))
    · exact command_answers ht rfl (serveLaneClose_closes (openTo_atCommand h) (hdsp ▸ hd) (hdrw ▸ hp))
    · exact command_answers ht rfl (serveLaneClose_busy (openTo_atCommand h) (by rwa [hdsp, hdrw]))
    · exact command_answers ht rfl (serveLaneClose_notOwner (hlsv ▸ h) (mt ownerPasses_atCommand.1 ho))
    · exact command_answers ht rfl (serveLaneClose_service (hlsv ▸ h))
    · exact command_answers ht rfl (serveLaneClose_laneClosed (hlsv ▸ hs) (hlsv ▸ ho))
  · have hlsv := atCommand_lsv s source
    have halm := atCommand_alm s source
    refine ⟨fun ht => ⟨fun h => ?_, fun h => ?_⟩, fun b w left hl hopen hw hquiet hlatches => ⟨fun ht hb => ?_,
      fun htimer hb => ?_⟩, fun ht h => ?_⟩
    · exact command_answers ht rfl (checked_eq (by simp [h]) _)
    · exact command_answers ht rfl (checked_refused _ (by simp [h]) _)
    · have hends := endService_eq (b := atCommand s source) (left := left) (halm ▸ hopen) (hb ▸ hw)
        (halm ▸ hquiet) (halm ▸ hlatches)
      refine command_answers ht rfl ((checked_eq (by simp [hl]) _).trans ?_)
      rw [settled, hends, hlsv]
      rfl
    · have hends := endService_eq (b := begun s) (left := left) hopen (hb ▸ hw) hquiet hlatches
      have hacts : (decide ((begun s).lsv.lane = .service) && (begun s).lsv.serviceTimer.isSome) = true := by
        simpa [begun, hl, Option.isSome_iff_ne_none] using htimer
      simp only [exec, execServiceTimeout, act_eq, hacts, when_true, hends]
      rfl
    · exact command_answers ht rfl (checked_refused _ (by simp [h]) _)

end Sys2Proof.Machine
end

section
/-!
PROOF. What the alarm block reads of the other blocks: the announced sets of the peer records and whether the lane is in SERVICE. Each
operation outside the alarm block and the alarm frames leaves both as they are.
-/

namespace Sys2Proof.Machine

open Sys2Proof

/-! ### The announced sets (R148) -/

/-- The announced alarm sets of the fifteen records. -/
def announcedSets (peers : Vector Peer 15) : Vector AlarmSet 15 := peers.map (fun p => p.announced)

theorem peerAt_announced (peers : Vector Peer 15) (n : Nat) :
    (peerAt peers n).announced = if h : n < 15 then (announcedSets peers)[n] else AlarmSet.empty := by
  unfold peerAt announcedSets
  split <;> simp [Peer.reset]

/-- The union of the sets reads no more of the records than what they announce. -/
theorem uniteAnnounced_congr {p q : Vector Peer 15} (h : announcedSets p = announcedSets q) (own : Station) (latch : AlarmSet) :
    uniteAnnounced own latch p = uniteAnnounced own latch q := by
  simp only [uniteAnnounced, peerAt_announced, h]

@[simp] theorem modifyPeer_announced {f : Peer → Peer} (hf : ∀ p, (f p).announced = p.announced) (n : Nat)
    (peers : Vector Peer 15) : announcedSets (modifyPeer n f peers) = announcedSets peers := by
  unfold modifyPeer announcedSets
  split
  next hn =>
    refine Vector.ext fun i hi => ?_
    by_cases hni : n = i
    · subst hni
      simp [hf]
    · simp [hni]
  next => rfl

section

variable (s : State)

@[simp] theorem hear_announced (source : Station) : announcedSets (hear source s).pt.peers = announcedSets s.pt.peers := by
  unfold hear
  dsimp only
  split <;> simp

@[simp] theorem attemptCompleted_announced (heard : Bool) :
    announcedSets (attemptCompleted heard s).pt.peers = announcedSets s.pt.peers := by
  simp [attemptCompleted]

/-! ### The dispense engine -/

@[simp] theorem dspEnd_announced (reason : EndReason) (after : DspState) :
    announcedSets (dspEnd reason after s).pt.peers = announcedSets s.pt.peers := by
  unfold dspEnd
  dsimp only
  (repeat' split) <;> simp

@[simp] theorem finishPurge_announced : announcedSets (finishPurge s).pt.peers = announcedSets s.pt.peers := by
  simp [finishPurge]

@[simp] theorem dspEndByPurge_announced (reason : EndReason) :
    announcedSets (dspEndByPurge reason s).pt.peers = announcedSets s.pt.peers := by
  unfold dspEndByPurge
  dsimp only
  (repeat' split) <;> simp

@[simp] theorem dspEndReserving_announced (reason : EndReason) :
    announcedSets (dspEndReserving reason s).pt.peers = announcedSets s.pt.peers := by
  unfold dspEndReserving
  (repeat' split) <;> simp

@[simp] theorem dspFault_announced : announcedSets (dspFault s).pt.peers = announcedSets s.pt.peers := by
  unfold dspFault
  (repeat' split) <;> simp

@[simp] theorem dspActivate_announced : announcedSets (dspActivate s).pt.peers = announcedSets s.pt.peers := by
  unfold dspActivate
  dsimp only
  (repeat' split) <;> simp

@[simp] theorem dspContinue_announced : announcedSets (dspContinue s).1.pt.peers = announcedSets s.pt.peers := by
  unfold dspContinue
  dsimp only
  split <;> simp

@[simp] theorem dspQuiet_announced : announcedSets (dspQuiet s).pt.peers = announcedSets s.pt.peers := by
  unfold dspQuiet
  (repeat' split) <;> simp

@[simp] theorem dspBaseline_announced (ok : Bool) : announcedSets (dspBaseline ok s).pt.peers = announcedSets s.pt.peers := by
  unfold dspBaseline
  (repeat' split) <;> simp

@[simp] theorem dspOnClear_announced : announcedSets (dspOnClear s).pt.peers = announcedSets s.pt.peers := by
  unfold dspOnClear
  dsimp only
  (repeat' split) <;> simp

@[simp] theorem dspSlotCheck_announced : announcedSets (dspSlotCheck s).pt.peers = announcedSets s.pt.peers := by
  unfold dspSlotCheck
  dsimp only
  (repeat' split) <;> simp

@[simp] theorem casReport_announced (k : Slot) (f : Cassette → Cassette × Option CasCause) :
    announcedSets (casReport k f s).pt.peers = announcedSets s.pt.peers := by
  simp [casReport]

@[simp] theorem dspStacked_announced (r : Routed) : announcedSets (dspStacked r s).pt.peers = announcedSets s.pt.peers := by
  unfold dspStacked
  dsimp only
  (repeat' split) <;> simp

@[simp] theorem dspRejected_announced (r : Routed) : announcedSets (dspRejected r s).pt.peers = announcedSets s.pt.peers := by
  unfold dspRejected
  dsimp only
  (repeat' split) <;> simp

@[simp] theorem dspHandOver_announced (r : Routed) : announcedSets (dspHandOver r s).pt.peers = announcedSets s.pt.peers := by
  unfold dspHandOver
  (repeat' split) <;> simp

@[simp] theorem dspTaken_announced : announcedSets (dspTaken s).pt.peers = announcedSets s.pt.peers := by
  unfold dspTaken
  dsimp only
  (repeat' split) <;> simp

@[simp] theorem dspUntaken_announced : announcedSets (dspUntaken s).pt.peers = announcedSets s.pt.peers := by
  unfold dspUntaken
  (repeat' split) <;> simp

@[simp] theorem dspRetracted_announced : announcedSets (dspRetracted s).pt.peers = announcedSets s.pt.peers := by
  unfold dspRetracted
  dsimp only
  (repeat' split) <;> simp

@[simp] theorem dspSweepFailed_announced : announcedSets (dspSweepFailed s).pt.peers = announcedSets s.pt.peers := by
  unfold dspSweepFailed
  (repeat' split) <;> simp

@[simp] theorem dspDrawerJammed_announced : announcedSets (dspDrawerJammed s).pt.peers = announcedSets s.pt.peers := by
  unfold dspDrawerJammed
  (repeat' split) <;> simp

@[simp] theorem dspCancel_announced : announcedSets (dspCancel s).1.pt.peers = announcedSets s.pt.peers := by
  unfold dspCancel
  dsimp only
  (repeat' split) <;> simp

@[simp] theorem dspLockdown_announced : announcedSets (dspLockdown s).pt.peers = announcedSets s.pt.peers := by
  unfold dspLockdown
  (repeat' split) <;> simp

@[simp] theorem dspRestart_announced : announcedSets (dspRestart s).pt.peers = announcedSets s.pt.peers := by
  unfold dspRestart
  (repeat' split) <;> simp

@[simp] theorem dspReserveLost_announced : announcedSets (dspReserveLost s).pt.peers = announcedSets s.pt.peers := by
  unfold dspReserveLost
  (repeat' split) <;> simp

/-! ### Claims, exposures and void confinement -/

@[simp] theorem recordClaim_announced (source : Station) :
    announcedSets (recordClaim source s).pt.peers = announcedSets s.pt.peers := by
  unfold recordClaim
  (repeat' split) <;> simp

@[simp] theorem recordRelease_announced (source : Station) (captured : Bool) :
    announcedSets (recordRelease source captured s).pt.peers = announcedSets s.pt.peers := by
  unfold recordRelease
  dsimp only
  (repeat' split) <;> simp

@[simp] theorem reserveCheck_announced (amount : Nat) :
    announcedSets (reserveCheck amount s).1.pt.peers = announcedSets s.pt.peers := by
  unfold reserveCheck
  dsimp only
  split <;> simp

@[simp] theorem enterQuiet_announced : announcedSets (enterQuiet s).pt.peers = announcedSets s.pt.peers := by
  simp [enterQuiet]

@[simp] theorem countVoid_announced : announcedSets (countVoid s).pt.peers = announcedSets s.pt.peers := by
  unfold countVoid
  dsimp only
  split <;> simp

end

/-! ### Operations that may report a fault or move the lane within a purge (R183, R185)

None of them takes the lane into SERVICE or out of it: a report in SERVICE is held, and the purge's moves begin in PURGING. -/

section

variable (s : State)

@[simp] theorem faultReport_leaves :
    announcedSets (faultReport s).pt.peers = announcedSets s.pt.peers
      ∧ ((faultReport s).lsv.lane = .service ↔ s.lsv.lane = .service) := by
  unfold faultReport
  (repeat' split) <;> simp_all

@[simp] theorem ntgJam_leaves (cause : HaltCause) :
    announcedSets (ntgJam cause s).pt.peers = announcedSets s.pt.peers
      ∧ ((ntgJam cause s).lsv.lane = .service ↔ s.lsv.lane = .service) := by
  simp [ntgJam]

@[simp] theorem askBaseline_leaves :
    announcedSets (askBaseline s).pt.peers = announcedSets s.pt.peers
      ∧ ((askBaseline s).lsv.lane = .service ↔ s.lsv.lane = .service) := by
  unfold askBaseline
  dsimp only
  (repeat' split) <;> simp

@[simp] theorem dspReserved_leaves (o : ReserveOutcome) :
    announcedSets (dspReserved o s).pt.peers = announcedSets s.pt.peers
      ∧ ((dspReserved o s).lsv.lane = .service ↔ s.lsv.lane = .service) := by
  unfold dspReserved
  dsimp only
  (repeat' split) <;> simp

@[simp] theorem inkJam_leaves (cause : InkJam) :
    announcedSets (inkJam cause s).pt.peers = announcedSets s.pt.peers
      ∧ ((inkJam cause s).lsv.lane = .service ↔ s.lsv.lane = .service) := by
  unfold inkJam
  dsimp only
  (repeat' split) <;> simp

@[simp] theorem inkStart_leaves :
    announcedSets (inkStart s).pt.peers = announcedSets s.pt.peers
      ∧ ((inkStart s).lsv.lane = .service ↔ s.lsv.lane = .service) := by
  unfold inkStart
  dsimp only
  (repeat' split) <;> simp

@[simp] theorem inkHand_leaves :
    announcedSets (inkHand s).pt.peers = announcedSets s.pt.peers
      ∧ ((inkHand s).lsv.lane = .service ↔ s.lsv.lane = .service) := by
  unfold inkHand
  dsimp only
  (repeat' split) <;> simp

@[simp] theorem settleInk_leaves :
    announcedSets (settleInk s).pt.peers = announcedSets s.pt.peers
      ∧ ((settleInk s).lsv.lane = .service ↔ s.lsv.lane = .service) := by
  unfold settleInk
  (repeat' split) <;> simp

@[simp] theorem settle_leaves :
    announcedSets (settle s).pt.peers = announcedSets s.pt.peers
      ∧ ((settle s).lsv.lane = .service ↔ s.lsv.lane = .service) := by
  simp [settle]

@[simp] theorem purgeFail_leaves :
    announcedSets (purgeFail s).pt.peers = announcedSets s.pt.peers
      ∧ ((purgeFail s).lsv.lane = .service ↔ s.lsv.lane = .service) := by
  unfold purgeFail
  (repeat' split) <;> simp_all

@[simp] theorem purgeCheck_leaves :
    announcedSets (purgeCheck s).pt.peers = announcedSets s.pt.peers
      ∧ ((purgeCheck s).lsv.lane = .service ↔ s.lsv.lane = .service) := by
  unfold purgeCheck
  (repeat' split) <;> simp_all

@[simp] theorem intakeClear_leaves :
    announcedSets (intakeClear s).pt.peers = announcedSets s.pt.peers
      ∧ ((intakeClear s).lsv.lane = .service ↔ s.lsv.lane = .service) := by
  unfold intakeClear
  (repeat' split) <;> simp

@[simp] theorem clearRequest_leaves :
    announcedSets (clearRequest s).pt.peers = announcedSets s.pt.peers
      ∧ ((clearRequest s).lsv.lane = .service ↔ s.lsv.lane = .service) := by
  unfold clearRequest
  (repeat' split) <;> simp

@[simp] theorem inkIdle_leaves :
    announcedSets (inkIdle s).pt.peers = announcedSets s.pt.peers
      ∧ ((inkIdle s).lsv.lane = .service ↔ s.lsv.lane = .service) := by
  unfold inkIdle
  dsimp only
  (repeat' split) <;> simp

@[simp] theorem drawerClosed_leaves :
    announcedSets (drawerClosed s).pt.peers = announcedSets s.pt.peers
      ∧ ((drawerClosed s).lsv.lane = .service ↔ s.lsv.lane = .service) := by
  unfold drawerClosed
  (repeat' split) <;> simp

@[simp] theorem purgeDone_leaves :
    announcedSets (purgeDone s).pt.peers = announcedSets s.pt.peers
      ∧ ((purgeDone s).lsv.lane = .service ↔ s.lsv.lane = .service) := by
  unfold purgeDone
  dsimp only
  (repeat' split) <;> simp

@[simp] theorem purgeHalt_leaves (cause : HaltCause) :
    announcedSets (purgeHalt cause s).pt.peers = announcedSets s.pt.peers
      ∧ ((purgeHalt cause s).lsv.lane = .service ↔ s.lsv.lane = .service) := by
  unfold purgeHalt
  dsimp only
  (repeat' split) <;> simp

@[simp] theorem transportHalt_leaves (cause : HaltCause) :
    announcedSets (transportHalt cause s).pt.peers = announcedSets s.pt.peers
      ∧ ((transportHalt cause s).lsv.lane = .service ↔ s.lsv.lane = .service) := by
  unfold transportHalt
  (repeat' split) <;> simp

@[simp] theorem purgeHandOver_leaves (r : Routed) :
    announcedSets (purgeHandOver r s).pt.peers = announcedSets s.pt.peers
      ∧ ((purgeHandOver r s).lsv.lane = .service ↔ s.lsv.lane = .service) := by
  unfold purgeHandOver
  dsimp only
  (repeat' split) <;> simp

@[simp] theorem drawerJam_leaves (cause : DrwJam) :
    announcedSets (drawerJam cause s).pt.peers = announcedSets s.pt.peers
      ∧ ((drawerJam cause s).lsv.lane = .service ↔ s.lsv.lane = .service) := by
  unfold drawerJam
  dsimp only
  (repeat' split) <;> simp

@[simp] theorem dealHome_leaves :
    announcedSets (dealHome s).pt.peers = announcedSets s.pt.peers
      ∧ ((dealHome s).lsv.lane = .service ↔ s.lsv.lane = .service) := by
  unfold dealHome
  dsimp only
  (repeat' split) <;> simp

@[simp] theorem drawerArrives_leaves :
    announcedSets (drawerArrives s).pt.peers = announcedSets s.pt.peers
      ∧ ((drawerArrives s).lsv.lane = .service ↔ s.lsv.lane = .service) := by
  simp [drawerArrives]

@[simp] theorem loadEnds_leaves :
    announcedSets (loadEnds s).pt.peers = announcedSets s.pt.peers
      ∧ ((loadEnds s).lsv.lane = .service ↔ s.lsv.lane = .service) := by
  unfold loadEnds
  dsimp only
  (repeat' split) <;> simp

@[simp] theorem ejectEnded_leaves :
    announcedSets (ejectEnded s).pt.peers = announcedSets s.pt.peers
      ∧ ((ejectEnded s).lsv.lane = .service ↔ s.lsv.lane = .service) := by
  unfold ejectEnded
  (repeat' split) <;> simp

@[simp] theorem trayReady_leaves :
    announcedSets (trayReady s).pt.peers = announcedSets s.pt.peers
      ∧ ((trayReady s).lsv.lane = .service ↔ s.lsv.lane = .service) := by
  unfold trayReady
  (repeat' split) <;> simp

@[simp] theorem itemTaken_leaves :
    announcedSets (itemTaken s).pt.peers = announcedSets s.pt.peers
      ∧ ((itemTaken s).lsv.lane = .service ↔ s.lsv.lane = .service) := by
  unfold itemTaken
  dsimp only
  (repeat' split) <;> simp

@[simp] theorem takeExpires_leaves :
    announcedSets (takeExpires s).pt.peers = announcedSets s.pt.peers
      ∧ ((takeExpires s).lsv.lane = .service ↔ s.lsv.lane = .service) := by
  unfold takeExpires
  dsimp only
  (repeat' split) <;> simp

@[simp] theorem sweepEnds_leaves :
    announcedSets (sweepEnds s).pt.peers = announcedSets s.pt.peers
      ∧ ((sweepEnds s).lsv.lane = .service ↔ s.lsv.lane = .service) := by
  unfold sweepEnds
  dsimp only
  (repeat' split) <;> simp

@[simp] theorem drawerRestart_leaves :
    announcedSets (drawerRestart s).pt.peers = announcedSets s.pt.peers
      ∧ ((drawerRestart s).lsv.lane = .service ↔ s.lsv.lane = .service) := by
  unfold drawerRestart
  dsimp only
  (repeat' split) <;> simp

@[simp] theorem leadingEdge_leaves :
    (leadingEdge s).alm = s.alm ∧ (leadingEdge s).lsv.station = s.lsv.station
      ∧ announcedSets (leadingEdge s).pt.peers = announcedSets s.pt.peers
      ∧ ((leadingEdge s).lsv.lane = .service ↔ s.lsv.lane = .service) := by
  unfold leadingEdge
  (repeat' split) <;> simp

@[simp] theorem closeBaseline_leaves (l r : Nat) :
    (closeBaseline l r s).alm = s.alm ∧ (closeBaseline l r s).lsv.station = s.lsv.station
      ∧ announcedSets (closeBaseline l r s).pt.peers = announcedSets s.pt.peers
      ∧ ((closeBaseline l r s).lsv.lane = .service ↔ s.lsv.lane = .service) := by
  simp [closeBaseline]

@[simp] theorem checkDrained_leaves :
    (checkDrained s).alm = s.alm ∧ (checkDrained s).lsv.station = s.lsv.station
      ∧ announcedSets (checkDrained s).pt.peers = announcedSets s.pt.peers
      ∧ ((checkDrained s).lsv.lane = .service ↔ s.lsv.lane = .service) := by
  unfold checkDrained
  dsimp only
  (repeat' split) <;> simp

@[simp] theorem endMispick_leaves :
    (endMispick s).alm = s.alm ∧ (endMispick s).lsv.station = s.lsv.station
      ∧ announcedSets (endMispick s).pt.peers = announcedSets s.pt.peers
      ∧ ((endMispick s).lsv.lane = .service ↔ s.lsv.lane = .service) := by
  unfold endMispick
  dsimp only
  (repeat' split) <;> simp

@[simp] theorem trailing_leaves :
    (trailing s).alm = s.alm ∧ (trailing s).lsv.station = s.lsv.station
      ∧ announcedSets (trailing s).pt.peers = announcedSets s.pt.peers
      ∧ ((trailing s).lsv.lane = .service ↔ s.lsv.lane = .service) := by
  unfold trailing trailNote trailPurge learnFrom
  dsimp only
  (repeat' split) <;> simp

@[simp] theorem exitNote_leaves (side : Side) :
    (exitNote side s).alm = s.alm ∧ (exitNote side s).lsv.station = s.lsv.station
      ∧ announcedSets (exitNote side s).pt.peers = announcedSets s.pt.peers
      ∧ ((exitNote side s).lsv.lane = .service ↔ s.lsv.lane = .service) := by
  unfold exitNote
  dsimp only
  (repeat' split) <;> simp

@[simp] theorem exitPurge_leaves (side : Side) :
    (exitPurge side s).alm = s.alm ∧ (exitPurge side s).lsv.station = s.lsv.station
      ∧ announcedSets (exitPurge side s).pt.peers = announcedSets s.pt.peers
      ∧ ((exitPurge side s).lsv.lane = .service ↔ s.lsv.lane = .service) := by
  cases side <;> simp [exitPurge]

@[simp] theorem clearFails_leaves :
    (clearFails s).alm = s.alm ∧ (clearFails s).lsv.station = s.lsv.station
      ∧ announcedSets (clearFails s).pt.peers = announcedSets s.pt.peers
      ∧ ((clearFails s).lsv.lane = .service ↔ s.lsv.lane = .service) := by
  simp [clearFails]

end

end Sys2Proof.Machine
end

section
/-!
PROOF. What keeps the alarm block tied to the rest: the invariant taken apart, the operations that leave it alone, and each operation
of the alarm unit and the alarm frames.
-/

namespace Sys2Proof.Machine

open Sys2Proof

/-! ### The invariant without the service window (R148, R151, R152) -/

/-- What the relay, the siren and its timers follow. -/
structure Alm.Driven (a : Alm) : Prop where
  relay  : a.relay = a.latch.duress
  timer  : a.sirenTimer.isSome = a.siren
  toggle : a.sirenToggle.isSome = a.siren
  pulse  : a.sirenOn = true → a.siren = true

/-- The alarm block between the acts of a step that moves the lane: all of the invariant but the service window. -/
structure LatchesSound (s : State) : Prop where
  wall   : s.alm.wall = s.formedWall
  driven : s.alm.Driven

theorem alarmSound_iff {s : State} :
    AlarmSound s ↔ LatchesSound s ∧ s.alm.serviceWindow = decide (s.lsv.lane = .service) :=
  ⟨fun h => ⟨⟨h.wall, h.relay, h.timer, h.toggle, h.pulse⟩, h.window⟩,
    fun ⟨⟨hw, hr, ht, hg, hp⟩, hwin⟩ => ⟨hw, hr, ht, hg, hp, hwin⟩⟩

section

variable {s t : State}

theorem AlarmSound.latches (h : AlarmSound s) : LatchesSound s := (alarmSound_iff.1 h).1

theorem formedWall_congr (hl : t.alm.latch = s.alm.latch) (hst : t.lsv.station = s.lsv.station)
    (hp : announcedSets t.pt.peers = announcedSets s.pt.peers) : t.formedWall = s.formedWall := by
  rw [State.formedWall, State.formedWall, hl, hst, uniteAnnounced_congr hp]

/-- An act that leaves the wall set and all it is formed of, and drives relay and siren by the latches, keeps the latches sound. -/
theorem LatchesSound.of_driven (h : LatchesSound s) (hw : t.alm.wall = s.alm.wall) (hl : t.alm.latch = s.alm.latch)
    (hd : t.alm.Driven) (hst : t.lsv.station = s.lsv.station)
    (hp : announcedSets t.pt.peers = announcedSets s.pt.peers) : LatchesSound t where
  wall := by rw [hw, formedWall_congr hl hst hp, h.wall]
  driven := hd

/-- An operation that touches neither the alarm block nor what it reads leaves it sound. -/
theorem LatchesSound.of_leaves (h : LatchesSound s) (ha : t.alm = s.alm) (hst : t.lsv.station = s.lsv.station)
    (hp : announcedSets t.pt.peers = announcedSets s.pt.peers) : LatchesSound t :=
  h.of_driven (congrArg Alm.wall ha) (congrArg Alm.latch ha) (ha ▸ h.driven) hst hp

/-- A step that leaves the alarm block and all that the block is tied to. -/
@[simp] def LeavesAlarms (s t : State) : Prop :=
  t.alm = s.alm ∧ t.lsv.station = s.lsv.station ∧ announcedSets t.pt.peers = announcedSets s.pt.peers
    ∧ (t.lsv.lane = .service ↔ s.lsv.lane = .service)

theorem AlarmSound.of_leaves (h : AlarmSound s) (hk : LeavesAlarms s t) : AlarmSound t := by
  obtain ⟨ha, hst, hp, hl⟩ := hk
  refine alarmSound_iff.2 ⟨h.latches.of_leaves ha hst hp, ?_⟩
  rw [ha, h.window, decide_eq_decide]
  exact hl.symm

/-- An act that keeps the latches sound, the window and the lane. -/
theorem AlarmSound.of_latches (h : AlarmSound s) (ht : LatchesSound t) (hw : t.alm.serviceWindow = s.alm.serviceWindow)
    (hl : t.lsv.lane = s.lsv.lane) : AlarmSound t :=
  alarmSound_iff.2 ⟨ht, by rw [hw, hl, h.window]⟩

/-- The loops and their levels are tied to nothing. -/
theorem AlarmSound.after_loops (h : AlarmSound s) (loops : Four AlarmLoop) (lines : Lines) :
    AlarmSound { s with alm.loops := loops, lines := lines } :=
  ⟨h.wall, h.relay, h.timer, h.toggle, h.pulse, h.window⟩

/-! ### The wall set (R148) -/

theorem formWall_alm (s : State) : (formWall s).alm = { s.alm with wall := s.formedWall } := by
  obtain ⟨-, h⟩ | ⟨-, -, ⟨-, h⟩ | ⟨-, h⟩⟩ := formWall_cases s <;> simp [h]

@[simp] theorem formWall_announced (s : State) : announcedSets (formWall s).pt.peers = announcedSets s.pt.peers := by
  unfold formWall
  dsimp only
  (repeat' split) <;> simp

theorem formWall_wall (s : State) : (formWall s).alm.wall = (formWall s).formedWall := by
  rw [formedWall_congr (s := s) (by simp) (by simp) (by simp), formWall_alm]

/-- Whatever has changed in the records, the wall set is formed of them again. -/
theorem formWall_sound (h : s.alm.Driven) : LatchesSound (formWall s) where
  wall := formWall_wall s
  driven := by
    obtain ⟨hr, ht, hg, hp⟩ := h
    rw [formWall_alm]
    exact ⟨hr, ht, hg, hp⟩

/-! ### Siren, relay and latches (R145, R151, R152) -/

theorem LatchesSound.after_stopSiren (h : LatchesSound s) : LatchesSound (stopSiren s) :=
  h.of_driven rfl rfl ⟨h.driven.relay, rfl, rfl, nofun⟩ rfl rfl

/-- New kinds bring the wall set, and relay and siren by what is new. -/
theorem LatchesSound.after_latchKinds (h : LatchesSound s) (kinds : AlarmSet) : LatchesSound (latchKinds kinds s) := by
  by_cases hnew : kinds.minus s.alm.latch = AlarmSet.empty
  · rw [latchKinds_known hnew]
    exact h
  · obtain ⟨hr, ht, hg, hp⟩ := h.driven
    rw [latchKinds_new rfl hnew rfl]
    refine ⟨formWall_wall _, ⟨?_, ?_, ?_, ?_⟩⟩
    · simp only [formWall_keeps, hr, AlarmSet.minus, AlarmSet.union]
      cases s.alm.latch.duress <;> cases kinds.duress <;> rfl
    · cases (kinds.minus s.alm.latch).sounds <;> simp [ht]
    · cases (kinds.minus s.alm.latch).sounds <;> simp [hg]
    · cases (kinds.minus s.alm.latch).sounds with
      | false => simpa using hp
      | true => simp

theorem LatchesSound.after_setEnable (h : LatchesSound s) (loop : Slot) (enabled : Bool) :
    LatchesSound (setEnable loop enabled s) := by
  have hset : LatchesSound { s with alm.loops := s.alm.loops.modify loop (fun l => { l with enabled := enabled }) } :=
    h.of_driven rfl rfl ⟨h.driven.relay, h.driven.timer, h.driven.toggle, h.driven.pulse⟩ rfl rfl
  unfold setEnable
  dsimp only
  split
  · exact hset.after_latchKinds _
  · exact hset

theorem LatchesSound.after_closeServiceWindow (h : LatchesSound s) : LatchesSound (closeServiceWindow s) := by
  have hclosed : LatchesSound { s with alm.serviceWindow := false } :=
    h.of_driven rfl rfl ⟨h.driven.relay, h.driven.timer, h.driven.toggle, h.driven.pulse⟩ rfl rfl
  unfold closeServiceWindow
  dsimp only
  split
  · split
    · exact hclosed.after_latchKinds _
    · exact hclosed
  · exact h

theorem closeServiceWindow_shut (s : State) : (closeServiceWindow s).alm.serviceWindow = false := by
  unfold closeServiceWindow
  dsimp only
  (repeat' split) <;> simp_all

/-- ALARM_RESET forms the wall set of the latches it leaves; DURESS takes the relay with it, the last kind that sounds the siren. -/
theorem LatchesSound.after_alarmResetSteps (h : LatchesSound s) : LatchesSound (alarmResetSteps s) := by
  obtain ⟨left, hleft⟩ : ∃ left, stillHeld s.alm.loops s.alm.latch = left := ⟨_, rfl⟩
  have hsub : left.duress = true → s.alm.latch.duress = true := fun hd => by
    rw [← hleft] at hd
    exact (Bool.and_eq_true_iff.1 hd).1
  obtain ⟨hr, ht, hg, hp⟩ := h.driven
  obtain ⟨after, hkept, hcleared⟩ : ∃ after : State, (left = s.alm.latch → after = { s with biu.alarmFlag := true }) ∧
      (left ≠ s.alm.latch → after =
        { formWall { s with alm.latch := left, biu.alarmFlag := true, alm.latchChanged := true } with
          alm.relay := if s.alm.latch.duress && !left.duress then false else s.alm.relay }) := by
    by_cases he : left = s.alm.latch
    · exact ⟨_, fun _ => rfl, fun hn => absurd he hn⟩
    · exact ⟨_, fun h => absurd h he, fun _ => rfl⟩
  have hafter : LatchesSound after := by
    by_cases he : left = s.alm.latch
    · rw [hkept he]
      exact h.of_leaves rfl rfl rfl
    · rw [hcleared he]
      refine ⟨formWall_wall _, ⟨?_, by simpa using ht, by simpa using hg, by simpa using hp⟩⟩
      simp only [formWall_keeps, hr]
      cases hd : left.duress <;> cases hl : s.alm.latch.duress <;> simp_all
  rw [alarmResetSteps_eq hleft hkept hcleared]
  split
  · exact hafter
  · exact hafter.after_stopSiren

/-! ### The service window and the lane (R146, R184) -/

theorem AlarmSound.after_endService (h : AlarmSound s) : AlarmSound (endService s) := by
  have hclosed : LatchesSound (closeServiceWindow { s with lsv.serviceTimer := none }) :=
    (h.latches.of_leaves (t := { s with lsv.serviceTimer := none }) rfl rfl rfl).after_closeServiceWindow
  refine alarmSound_iff.2 ⟨hclosed.of_leaves rfl rfl rfl, ?_⟩
  refine (closeServiceWindow_shut _).trans (decide_eq_false ?_).symm
  simp only [endService]
  split <;> simp

@[simp] theorem enterPurging_announced (s : State) :
    announcedSets (enterPurging s).pt.peers = announcedSets s.pt.peers := by
  unfold enterPurging
  dsimp only
  split <;> simp

theorem enterPurging_lane (s : State) : (enterPurging s).lsv.lane ≠ .service := by
  unfold enterPurging
  dsimp only
  split <;> simp

theorem LatchesSound.after_enterPurging (h : LatchesSound s) (hw : s.alm.serviceWindow = false) :
    AlarmSound (enterPurging s) :=
  alarmSound_iff.2 ⟨h.of_leaves (by simp) (by simp) (by simp), by simp [hw, enterPurging_lane]⟩

/-- The later acts of a restart close the window and leave SERVICE. -/
theorem LatchesSound.after_restartTail (h : LatchesSound s) : AlarmSound (restartTail s) := by
  have hclosed : ∀ i, LatchesSound i → LatchesSound (answerRestarts { closeServiceWindow i with cmd.owner := none }) :=
    fun i hi => hi.after_closeServiceWindow.of_leaves (by simp) (by simp) (by simp)
  rw [restartTail_eq rfl rfl rfl]
  exact (hclosed _ (h.of_leaves (by simp) (by simp) (by simp))).after_enterPurging (by simp [closeServiceWindow_shut])

theorem AlarmSound.after_restart (h : AlarmSound s) : AlarmSound (restart s) := by
  have hended : AlarmSound (dspRestart s) := h.of_leaves (by simp)
  unfold restart
  dsimp only
  split
  · exact hended
  · exact hended.latches.after_restartTail

theorem AlarmSound.after_reserveOutcome (h : AlarmSound s) (o : ReserveOutcome) : AlarmSound (reserveOutcome o s) := by
  have hdone : AlarmSound (dspReserved o s) := h.of_leaves (by simp)
  unfold reserveOutcome
  dsimp only
  split
  · exact hdone
  · exact hdone.latches.after_restartTail

theorem AlarmSound.after_reserveLost (h : AlarmSound s) : AlarmSound (reserveLost s) := by
  have hlost : AlarmSound (dspReserveLost s) := h.of_leaves (by simp)
  unfold reserveLost
  dsimp only
  split
  · exact hlost
  · exact hlost.latches.after_restartTail

theorem AlarmSound.after_stopSiren (h : AlarmSound s) : AlarmSound (stopSiren s) :=
  h.of_latches h.latches.after_stopSiren (by simp) (by simp)

theorem AlarmSound.after_loopLatches (h : AlarmSound s) (loop : Slot) : AlarmSound (loopLatches loop s) :=
  h.of_latches (h.latches.after_latchKinds _) (by simp) (by simp)

theorem AlarmSound.after_setEnable (h : AlarmSound s) (loop : Slot) (enabled : Bool) : AlarmSound (setEnable loop enabled s) :=
  h.of_latches (h.latches.after_setEnable _ _) (by simp) (by simp)

theorem AlarmSound.after_alarmResetSteps (h : AlarmSound s) : AlarmSound (alarmResetSteps s) :=
  h.of_latches h.latches.after_alarmResetSteps (by simp) (by simp)

end

end Sys2Proof.Machine
end

section
/-!
PROOF. The alarm invariant through the frames: the own attempt and its ends, the frames of other stations, and a console command.
-/

namespace Sys2Proof.Machine

open Sys2Proof

section

variable {s : State} (h : AlarmSound s)

include h

/-! ### The framing of a step -/

theorem AlarmSound.after_begun : AlarmSound (begun s) := h.of_leaves (by simp [begun])

theorem AlarmSound.after_settle : AlarmSound (settle s) := h.of_leaves (by simp)

theorem AlarmSound.after_when {f : State → State} {c : Bool} (hf : c = true → AlarmSound (f s)) : AlarmSound (when c f s) := by
  cases c
  · exact h
  · exact hf rfl

theorem AlarmSound.after_when_settle {f : State → State} {c : Bool} (hf : c = true → AlarmSound (f s)) :
    AlarmSound (when c (fun u => settle (f u)) s) :=
  h.after_when fun hc => (hf hc).after_settle

/-- A step that leaves the alarm block and what it is tied to, where its condition holds. -/
theorem AlarmSound.after_when_leaves {f : State → State} (hf : LeavesAlarms s (f s)) (c : Bool) : AlarmSound (when c f s) :=
  h.after_when fun _ => h.of_leaves hf

/-! ### The own attempt (R147, R166, R170) -/

/-- The mark of a change of latches since the last ALARM is tied to nothing. -/
theorem AlarmSound.after_latchChanged (b : Bool) : AlarmSound { s with alm.latchChanged := b } :=
  ⟨h.wall, h.relay, h.timer, h.toggle, h.pulse, h.window⟩

theorem AlarmSound.after_offer : AlarmSound (offer s) := by
  obtain ⟨hr, ht, hg, hp⟩ := h.latches.driven
  have hd : (offer s).alm.Driven := ⟨by simpa using hr, by simpa using ht, by simpa using hg, by simpa using hp⟩
  exact h.of_latches (h.latches.of_driven (by simp) (by simp) hd (by simp) (by simp)) (by simp) (by simp)

theorem AlarmSound.after_wallVoided (item : WallItem) : AlarmSound (wallVoided item s) := by
  have hd : AlarmSound (dropWall item s) := h.of_leaves (by simp)
  unfold wallVoided
  dsimp only
  split
  · exact hd.after_reserveOutcome _
  · exact hd
  · split <;> exact h.of_leaves (by simp)
  · split <;> exact h.of_leaves (by simp)

theorem AlarmSound.after_voidAttempt : AlarmSound (voidAttempt s) := by
  unfold voidAttempt
  dsimp only
  split
  · exact h
  · split
    · exact h.of_leaves (by simp)
    · refine AlarmSound.after_wallVoided (h.of_leaves ?_) _
      simp
    · exact h.of_leaves (by simp)
    · exact h.of_leaves (by simp)

theorem AlarmSound.after_loseAttempt : AlarmSound (loseAttempt s) := by
  unfold loseAttempt
  dsimp only
  split
  · exact h
  · split
    · refine AlarmSound.after_reserveLost (h.of_leaves ?_)
      simp
    all_goals exact h.of_leaves (by simp)

theorem AlarmSound.after_ownReserveDone (amount : Nat) : AlarmSound (ownReserveDone amount s) :=
  AlarmSound.after_reserveOutcome (h.of_leaves (by simp)) _

theorem AlarmSound.after_completeAttempt (heard : Bool) : AlarmSound (completeAttempt heard s) := by
  have hd : AlarmSound (attemptCompleted heard s) := h.of_leaves (by simp)
  unfold completeAttempt
  dsimp only
  split
  · exact h
  · split
    · exact (hd.after_latchChanged false).of_leaves (by simp)
    · exact hd.after_ownReserveDone _
    all_goals exact hd.of_leaves (by simp)

/-! ### Frames that end VOID (R163, R166, R167) -/

theorem AlarmSound.after_countVoid : AlarmSound (countVoid s) := h.of_leaves (by simp)

theorem AlarmSound.after_breakFrame : AlarmSound (breakFrame s) := by
  have hd : AlarmSound (voidAttempt (dropReservations s)) := (h.of_leaves (by simp)).after_voidAttempt
  have hb : AlarmSound (drive .lineBreak { voidAttempt (dropReservations s) with biu.broken := true }) :=
    hd.of_leaves (by simp)
  obtain ⟨-, he⟩ | ⟨-, he⟩ := breakFrame_cases s
  · rw [he]
    exact hb
  · rw [he]
    exact hb.after_countVoid

theorem AlarmSound.after_endVoided (frame : Option RxFrame) : AlarmSound (endVoided frame s) := by
  unfold endVoided
  dsimp only
  split
  · have hd : AlarmSound (voidAttempt (dropReservations s)) := (h.of_leaves (by simp)).after_voidAttempt
    exact hd.of_leaves (by simp)
  next f =>
    have hd : AlarmSound (voidAttempt (dropReservations (ackSlot f s))) := (h.of_leaves (by simp)).after_voidAttempt
    split
    · exact h.after_breakFrame.of_leaves (by simp)
    · split
      · exact hd.of_leaves (by simp)
      · exact hd.of_leaves (by simp)

theorem AlarmSound.after_unlessVoided {taken : State → State} (ht : AlarmSound (taken s)) (f : RxFrame) :
    AlarmSound (unlessVoided f taken s) := by
  obtain ⟨-, he⟩ | ⟨-, he⟩ := unlessVoided_cases s f taken
  · rw [he]
    exact (h.after_endVoided _).after_settle
  · rw [he]
    exact ht

/-! ### Frames of other stations (R129, R130, R166) -/

theorem AlarmSound.after_carrying {effect : State → State} (he : ∀ {u}, AlarmSound u → AlarmSound (effect u)) (cls : BitVec 3)
    (kind : Nat) (f : RxFrame) : AlarmSound (carrying cls kind f effect s) := by
  obtain ⟨-, hc⟩ | hc := carrying_cases s cls kind f effect
  · rw [hc]
    exact he h
  · rw [hc]
    exact h

theorem AlarmSound.after_receive {effect : State → State} (he : ∀ {u}, AlarmSound u → AlarmSound (effect u)) (f : RxFrame) :
    AlarmSound (receive f effect s) := by
  have hheard : AlarmSound (ackSlot f (hear f.source s)) := h.of_leaves (by simp)
  unfold receive
  dsimp only
  split
  · split
    · exact hheard
    · exact he hheard
  · exact h.of_leaves (by simp)

/-- The row of a broadcast whose content keeps the invariant, with or without settling. -/
theorem AlarmSound.after_row {effect : State → State} (he : ∀ {u}, AlarmSound u → AlarmSound (effect u)) (cls : BitVec 3)
    (kind : Nat) (f : RxFrame) :
    AlarmSound (unlessVoided f (receive f (carrying cls kind f effect)) s) ∧
    AlarmSound (unlessVoided f (fun u => settle (receive f (carrying cls kind f effect) u)) s) := by
  have hr : AlarmSound (receive f (carrying cls kind f effect) s) := h.after_receive (fun hu => hu.after_carrying he cls kind f) f
  exact ⟨h.after_unlessVoided hr f, h.after_unlessVoided hr.after_settle f⟩

/-- What the other broadcasts carry bears on exposure, chute and capture count alone. -/
theorem AlarmSound.after_content (source : Station) (payload : List Byte) : AlarmSound (onReserve source payload s)
    ∧ AlarmSound (onRelease source payload s) ∧ AlarmSound (onClaim source payload s)
    ∧ AlarmSound (onChuteRelease source payload s) ∧ AlarmSound (onBinEmptied source payload s) := by
  unfold onReserve onRelease onClaim onChuteRelease onBinEmptied
  refine ⟨?_, ?_, ?_, ?_, ?_⟩ <;> (repeat' split) <;> exact h.of_leaves (by simp)

/-! ### Console commands (R172, R173) -/

theorem AlarmSound.after_answer (source : Station) (tag : Byte) (kind : BitVec 7) (reply : Reply) :
    AlarmSound (answer source tag kind reply s) := by
  unfold answer
  split
  · exact h.of_leaves (by simp)
  · exact h

theorem AlarmSound.after_checked {effect : State → State × Reply} {checks : List (Bool × Code)}
    (he : firstFailing checks = none → AlarmSound (effect s).1) : AlarmSound (checked checks effect s).1 := by
  unfold checked
  split
  · exact h
  next hc => exact he hc

theorem AlarmSound.after_onCommand {serve : List Byte → State → State × Reply}
    (hserve : ∀ p {u}, AlarmSound u → AlarmSound (serve p u).1) (kind : BitVec 7) (source : Station) (payload : List Byte) :
    AlarmSound (onCommand kind source payload serve s) := by
  have hheard : AlarmSound (hear source s) := h.of_leaves (by simp)
  unfold onCommand
  dsimp only
  repeat' split
  · exact hheard.of_leaves (by simp)
  · refine (hserve _ (hheard.of_leaves ?_)).after_answer _ _ _ _
    simp
  · refine AlarmSound.after_answer (hheard.of_leaves ?_) _ _ _ _
    simp
  · exact hheard
  · exact h

/-- A command whose service, where its checks pass, keeps the invariant. -/
theorem AlarmSound.after_command {checks : List Byte → State → List (Bool × Code)}
    {effect : List Byte → State → State × Reply} (he : ∀ p {u}, AlarmSound u → AlarmSound (effect p u).1) (kind : BitVec 7)
    (source : Station) (payload : List Byte) :
    AlarmSound (onCommand kind source payload (fun p u => checked (checks p u) (effect p) u) s) :=
  h.after_onCommand (fun p {_} hu => hu.after_checked fun _ => he p hu) kind source payload

/-! ### The alarm frames (R130, R131, R148) -/

theorem AlarmSound.after_onStatus (source : Station) (payload : List Byte) : AlarmSound (onStatus source payload s) := by
  have hd := h.latches.driven
  refine h.of_latches ?_ (by simp) (by simp)
  unfold onStatus
  split
  · exact h.latches
  · split
    · exact formWall_sound (by simpa using hd)
    · split
      · exact formWall_sound (by simpa using hd)
      · exact h.latches

theorem AlarmSound.after_onAlarm (source : Station) (payload : List Byte) : AlarmSound (onAlarm source payload s) := by
  refine h.of_latches ?_ (by simp) (by simp)
  unfold onAlarm
  split
  · exact formWall_sound (by simpa using h.latches.driven)
  · exact h.latches

theorem AlarmSound.after_onForget (source : Station) (payload : List Byte) : AlarmSound (onForget source payload s) := by
  refine h.of_latches ?_ (by simp) (by simp)
  unfold onForget
  dsimp only
  split
  · exact formWall_sound h.latches.driven
  · exact h.latches

end

end Sys2Proof.Machine
end

section
/-!
PROOF. Every step keeps the alarm invariant: the steps by their families, then time and the queue.
-/

namespace Sys2Proof.Machine

open Sys2Proof

section

variable {s t : State} {c : Instr} (hs : AlarmSound s) (h : exec c s = .next t)

include hs h

theorem busStep_alarmSound (hc : familyOf c = .bus) : AlarmSound t := by
  have hb : AlarmSound (begun s) := hs.after_begun
  cases c with
  | powerReset station slow =>
    simp only [exec, execPowerReset] at h
    rw [act_next _ h]
    exact (powerOn_alarmSound station slow).of_leaves (by simp)
  | joinBus =>
    simp only [exec, execJoinBus] at h
    rw [act_next _ h]
    refine hb.after_when fun hc => hb.of_leaves ?_
    obtain ⟨hl, -⟩ := Bool.and_eq_true_iff.1 hc
    simp [of_decide_eq_true hl]
  | statusPeriod =>
    simp only [exec, execStatusPeriod] at h
    rw [act_next _ h]
    exact hb.after_when_leaves (by simp) _
  | busStuckRecovered =>
    simp only [exec, execBusStuckRecovered] at h
    rw [act_next _ h]
    exact hb.of_leaves (by simp)
  | offerAtIdle =>
    simp only [exec, execOfferAtIdle] at h
    rw [act_next _ h]
    exact AlarmSound.after_offer (hb.of_leaves (by simp))
  | drawerSwitchesSettled =>
    simp only [exec, execDrawerSwitchesSettled] at h
    rw [act_next _ h]
    refine hb.after_when_leaves ?_ _
    (repeat' split) <;> simp
  | attemptLost =>
    rw [act_next _ h]
    exact hb.after_when_settle fun _ => hb.after_loseAttempt
  | quietTimeout =>
    rw [act_next _ h]
    exact hb.after_when_settle fun _ => hb.of_leaves (by simp)
  | busStuck =>
    simp only [exec, execBusStuck] at h
    rw [act_next _ h]
    refine hb.after_when_settle fun _ => AlarmSound.after_voidAttempt (hb.of_leaves ?_)
    simp
  | frameVoided frame =>
    rw [act_next _ h]
    exact hb.after_when_settle fun _ => hb.after_endVoided frame
  | commandAck frame =>
    simp only [exec, execCommandAck] at h
    rw [act_next _ h]
    split
    · exact hb.after_breakFrame.after_settle
    · exact hb.of_leaves (by simp)
  | formErrorBreak =>
    simp only [exec, execFormErrorBreak] at h
    rw [act_next _ h]
    refine hb.after_when_settle fun _ => ?_
    split
    · exact hb.of_leaves (by simp)
    · exact hb.after_breakFrame
  | ownAttemptCompleted heard | ownReserveCompleted heard =>
    rw [act_next _ h]
    exact hb.after_when_settle fun _ => hb.after_completeAttempt heard
  | ownAlarmCompleted heard | ownStatusCompleted heard =>
    rw [act_next _ h]
    exact hb.after_when fun _ => hb.after_completeAttempt heard
  | _ => cases hc

theorem peerStep_alarmSound (hc : familyOf c = .peer) : AlarmSound t := by
  have hb : AlarmSound (begun s) := hs.after_begun
  cases c with
  | peerAbsent =>
    rw [act_next _ h]
    exact hb.after_when_leaves (by simp) _
  | staleTimeout =>
    rw [act_next _ h]
    exact hb.after_when_leaves (by simp) _
  | statusReceived frame =>
    rw [act_next _ h]
    exact hb.after_when fun _ => (hb.after_row (fun hu => hu.after_onStatus _ _) _ _ _).2
  | alarmReceived frame =>
    rw [act_next _ h]
    exact hb.after_when fun _ => (hb.after_row (fun hu => hu.after_onAlarm _ _) _ _ _).2
  | forgetReceived frame =>
    rw [act_next _ h]
    exact hb.after_when fun _ => (hb.after_row (fun hu => hu.after_onForget _ _) _ _ _).2
  | reserveReceived frame =>
    rw [act_next _ h]
    exact hb.after_when fun _ => (hb.after_row (fun hu => (hu.after_content _ _).1) _ _ _).1
  | releaseReceived frame =>
    rw [act_next _ h]
    exact hb.after_when fun _ => (hb.after_row (fun hu => (hu.after_content _ _).2.1) _ _ _).1
  | binEmptiedReceived frame =>
    rw [act_next _ h]
    exact hb.after_when fun _ => (hb.after_row (fun hu => (hu.after_content _ _).2.2.2.2) _ _ _).2
  | presenceOnlyFrame frame =>
    rw [act_next _ h]
    exact hb.after_when fun _ => hb.after_unlessVoided (hb.after_receive id frame) frame
  | chuteClaimReceived frame heard =>
    simp only [exec, execChuteClaimReceived] at h
    rw [act_next _ h]
    refine hb.after_when fun _ => ?_
    split
    · exact (hb.after_completeAttempt heard).after_settle
    · exact (hb.after_row (fun hu => (hu.after_content _ _).2.2.1) _ _ _).2
  | chuteReleaseReceived frame heard =>
    simp only [exec, execChuteReleaseReceived] at h
    rw [act_next _ h]
    refine hb.after_when fun _ => ?_
    split
    · exact (hb.after_completeAttempt heard).after_settle
    · exact (hb.after_row (fun hu => (hu.after_content _ _).2.2.2.1) _ _ _).2
  | listenInEnd =>
    simp only [exec, execListenInEnd] at h
    rw [act_next _ h]
    refine hb.after_when_settle fun _ => hb.of_leaves ?_
    split <;> simp_all
  | _ => cases hc

theorem transportStep_alarmSound (hc : familyOf c = .transport) : AlarmSound t := by
  have hb : AlarmSound (begun s) := hs.after_begun
  have ha : ∀ path, AlarmSound (advanceTransport path (begun s)) := fun _ => hb.of_leaves (by simp [advanceTransport])
  cases c with
  | cassetteRemoved | suspendTimeout | cassetteInserted =>
    simp only [exec, execCassetteRemoved, execSuspendTimeout, execCassetteInserted] at h
    rw [act_next _ h]
    exact hb.after_when_leaves (by simp) _
  | transportStall path | baselineGateClosed path | edgeCovered path | mispick path | trailingEdge path | longObject path
  | noExit path | exitBlocked path | purgeDone path | noteGateClosed path =>
    simp only [exec, execTransportStall, execBaselineGateClosed, execEdgeCovered, execMispick, execTrailingEdge,
      execLongObject, execNoExit, execExitBlocked, execPurgeDone, execNoteGateClosed] at h
    rw [act_next _ h]
    exact (ha path).after_when_leaves (by simp) _
  | exitArrival path side =>
    rw [exitArrival_eq] at h
    rw [← Host.Outcome.next.inj h]
    split
    · exact AlarmSound.after_settle (hb.of_leaves (by simp))
    · split
      · exact AlarmSound.after_settle (hb.of_leaves (by simp))
      · exact hb.of_leaves (by simp)
  | _ => cases hc

theorem drawerStep_alarmSound (hc : familyOf c = .drawer) : AlarmSound t := by
  have hb : AlarmSound (begun s) := hs.after_begun
  have hl : ∀ lines, AlarmSound (sample lines (begun s)) := fun _ => hb.of_leaves (by simp)
  cases c with
  | trayChange =>
    simp only [exec, execTrayChange] at h
    rw [act_next _ h]
    exact AlarmSound.after_settle (hb.of_leaves (by simp))
  | drawerExtended =>
    simp only [exec, execDrawerExtended] at h
    rw [act_next _ h]
    refine hb.of_leaves ?_
    (repeat' split) <;> simp
  | trayEmptyTimeout | takeTimeout | sweepEnd | depositTimeout =>
    simp only [exec, execTrayEmptyTimeout, execTakeTimeout, execSweepEnd, execDepositTimeout] at h
    rw [act_next _ h]
    exact hb.after_when_leaves (by simp) _
  | safetyEdgePressed | safetyEdgeCleared =>
    simp only [exec, execSafetyEdgePressed, execSafetyEdgeCleared] at h
    rw [act_next _ h]
    refine AlarmSound.after_when_leaves (hb.of_leaves ?_) ?_ _ <;> simp
  | transferStrokeEnd lines | returnLoadTimeout lines | drawerHome lines =>
    simp only [exec, execTransferStrokeEnd, execReturnLoadTimeout, execDrawerHome] at h
    rw [act_next _ h]
    exact (hl _).after_when_leaves (by simp) _
  | drawerMotionTimeout lines =>
    simp only [exec, execDrawerMotionTimeout] at h
    rw [act_next _ h]
    refine (hl lines).after_when_leaves ?_ _
    split <;> simp
  | obstructionWaitEnd =>
    simp only [exec, execObstructionWaitEnd] at h
    rw [act_next _ h]
    refine hb.after_when_leaves ?_ _
    split <;> simp
  | _ => cases hc

theorem intakeStep_alarmSound (hc : familyOf c = .intake) : AlarmSound t := by
  have hb : AlarmSound (begun s) := hs.after_begun
  have ha : ∀ pulses, AlarmSound (advanceIntake pulses (begun s)) := fun _ => hb.of_leaves (by simp [advanceIntake])
  have hl : ∀ pulses lines, AlarmSound (advanceIntake pulses (sample lines (begun s))) :=
    fun _ _ => hb.of_leaves (by simp [advanceIntake])
  cases c with
  | intakeLeadingEdge pulses =>
    simp only [exec, execIntakeLeadingEdge] at h
    rw [act_next _ h]
    exact (ha pulses).of_leaves (by simp)
  | notDrawn pulses lines | reversalEnd pulses lines | ejectEnd pulses lines | ejectTimeout pulses lines =>
    simp only [exec, execNotDrawn, execReversalEnd, execEjectEnd, execEjectTimeout] at h
    rw [act_next _ h]
    exact (hl pulses lines).after_when_leaves (by simp) _
  | seatTimeout pulses | reverseTimeout pulses | clearRunTimeout pulses | printWindowOpen pulses | intakeTooLong pulses =>
    simp only [exec, execSeatTimeout, execReverseTimeout, execClearRunTimeout, execPrintWindowOpen, execIntakeTooLong] at h
    rw [act_next _ h]
    exact (ha pulses).after_when_leaves (by simp) _
  | intakeTrailingEdge pulses =>
    simp only [exec, execIntakeTrailingEdge] at h
    rw [act_next _ h]
    refine AlarmSound.after_when_leaves ((ha pulses).of_leaves ?_) ?_ _ <;> simp
  | printStrobe microseconds hot =>
    simp only [exec, execPrintStrobe] at h
    rw [act_next _ h]
    refine hb.of_leaves ?_
    (repeat' split) <;> simp
  | envelopeSeated pulses lines =>
    simp only [exec, execEnvelopeSeated] at h
    rw [act_next _ h]
    refine (hl pulses lines).after_when_leaves ?_ _
    split <;> simp
  | intakeStall pulses =>
    simp only [exec, execIntakeStall] at h
    rw [act_next _ h]
    refine (ha pulses).after_when_leaves ?_ _
    split <;> simp
  | clearRunEnd pulses lines =>
    simp only [exec, execClearRunEnd] at h
    rw [act_next _ h]
    refine (hl pulses lines).after_when_leaves ?_ _
    (repeat' split) <;> simp
  | _ => cases hc

theorem pocketStep_alarmSound (hc : familyOf c = .pocket) : AlarmSound t := by
  have hb : AlarmSound (begun s) := hs.after_begun
  cases c with
  | gatePulse | gateTimeout | fairnessWaitEnd =>
    simp only [exec, execGatePulse, execGateTimeout, execFairnessWaitEnd] at h
    rw [act_next _ h]
    exact hb.after_when_leaves (by simp) _
  | serviceTimeout =>
    rw [act_next _ h]
    exact hb.after_when_settle fun _ => hb.after_endService
  | sirenToggle =>
    rw [act_next _ h]
    refine hb.after_when fun hc => ?_
    have hon : (begun s).alm.siren = true := hb.toggle.symm.trans hc
    exact ⟨hb.wall, hb.relay, hb.timer, hon.symm, fun _ => hon, hb.window⟩
  | sirenTimeout =>
    rw [act_next _ h]
    exact hb.after_when fun _ => hb.after_stopSiren
  | loopChange loop cls =>
    simp only [exec, execLoopChange] at h
    rw [act_next _ h]
    refine hb.after_when fun _ => ?_
    split
    · exact ((hb.after_loops _ _).after_loopLatches _).after_settle
    · exact hb.after_loops _ _
  | _ => cases hc

theorem commandStep_alarmSound (hc : familyOf c = .command) : AlarmSound t := by
  have hb : AlarmSound (begun s) := hs.after_begun
  cases c with
  | laneOpen source payload =>
    simp only [exec, execLaneOpen] at h
    rw [act_next _ h]
    refine hb.after_onCommand (fun p {u} hu => ?_) _ _ _
    unfold serveLaneOpen
    split
    next hl => exact hu.of_leaves (by simp [hl])
    next => split <;> exact hu
  | laneClose source payload =>
    simp only [exec, execLaneClose] at h
    rw [act_next _ h]
    refine hb.after_onCommand (fun p {u} hu => hu.after_checked fun hok => ?_) _ _ _
    have hl : u.lsv.lane ≠ .service := of_decide_eq_false (passed_of_mem hok (code := .service) (by simp [openChecks]))
    exact hu.of_leaves (by simp [hl])
  | serviceBegin source payload =>
    simp only [exec, execServiceBegin] at h
    rw [act_next _ h]
    exact hb.after_command (fun p {u} hu => ⟨hu.wall, hu.relay, hu.timer, hu.toggle, hu.pulse, rfl⟩) _ _ _
  | serviceEnd source payload =>
    simp only [exec, execServiceEnd] at h
    rw [act_next _ h]
    exact hb.after_command (fun p {u} hu => hu.after_endService.after_settle) _ _ _
  | alarmAck source payload =>
    simp only [exec, execAlarmAck] at h
    rw [act_next _ h]
    refine hb.after_command (fun p {u} hu => ?_) _ _ _
    split
    · exact hu.after_stopSiren
    · exact hu
  | alarmReset source payload =>
    simp only [exec, execAlarmReset] at h
    rw [act_next _ h]
    exact hb.after_command (fun p {u} hu => hu.after_alarmResetSteps.after_settle) _ _ _
  | restart source payload lines =>
    simp only [exec, execRestart] at h
    rw [act_next _ h]
    refine hb.after_command (fun p {u} hu => AlarmSound.after_settle (AlarmSound.after_restart (hu.of_leaves ?_))) _ _ _
    simp
  | configLane source payload =>
    simp only [exec, execConfigLane] at h
    rw [act_next _ h]
    refine hb.after_command (fun p {u} hu => AlarmSound.after_settle (AlarmSound.after_setEnable (AlarmSound.after_setEnable
      (AlarmSound.after_setEnable (AlarmSound.after_setEnable (hu.of_leaves ?_) _ _) _ _) _ _) _ _)) _ _ _
    simp
  | configDone source payload lines =>
    simp only [exec, execConfigDone] at h
    rw [act_next _ h]
    refine hb.after_onCommand (fun p {u} hu => hu.after_checked fun hok => AlarmSound.after_settle ?_) _ _ _
    have hl : u.lsv.lane = .awaitConfig := by
      simpa using passed_of_mem hok (b := u.lsv.lane ≠ .awaitConfig) (code := .configLocked) (by simp [configCheck])
    exact (hu.latches.of_leaves (by simp) (by simp) (by simp)).after_enterPurging (by simp [hu.window, hl])
  | dispense | continueDispense | cancel | drawerOpen | drawerClose | envelopeCapture | envelopeReturn | imprintWrite
  | imprintField | binSet | configBins =>
    simp only [exec, execDispense, execContinue, execCancel, execDrawerOpen, execDrawerClose, execEnvelopeCapture,
      execEnvelopeReturn, execImprintWrite, execImprintField, execBinSet, execConfigBins] at h
    rw [act_next _ h]
    refine hb.after_command (fun p {u} hu => hu.of_leaves ?_) _ _ _
    simp [settled, capture, takeEnvelopeReturn, writeImprint, setField, setBins, configureBins]
  | dispenseMix source payload =>
    simp only [exec, execDispenseMix] at h
    rw [act_next _ h]
    exact hb.after_command (fun p {u} hu => hu.after_checked fun _ => hu.of_leaves (by simp)) _ _ _
  | cassetteLoad source payload =>
    simp only [exec, execCassetteLoad] at h
    rw [act_next _ h]
    refine hb.after_onCommand (fun p {u} hu => hu.of_leaves ?_) _ _ _
    unfold serveLoad
    (repeat' split) <;> simp [loadCassette]
  | configCassette source payload =>
    simp only [exec, execConfigCassette] at h
    rw [act_next _ h]
    refine hb.after_command (fun p {u} hu => hu.of_leaves ?_) _ _ _
    unfold configureCassette
    dsimp only
    split <;> simp
  | query source payload lines =>
    simp only [exec, execQuery] at h
    rw [act_next _ h]
    exact hb.after_onCommand (fun p {u} hu => hu.of_leaves (by simp)) _ _ _
  | badCommand source kind payload =>
    simp only [exec, execBadCommand] at h
    rw [act_next _ h]
    exact hb.after_when fun _ => hb.after_onCommand (fun p {u} hu => hu) _ _ _
  | _ => cases hc

end

theorem AlarmSound.after_exec {s t : State} {c : Instr} (hs : AlarmSound s) (h : exec c s = .next t) : AlarmSound t := by
  cases hc : familyOf c with
  | bus => exact busStep_alarmSound hs h hc
  | peer => exact peerStep_alarmSound hs h hc
  | command => exact commandStep_alarmSound hs h hc
  | transport => exact transportStep_alarmSound hs h hc
  | drawer => exact drawerStep_alarmSound hs h hc
  | intake => exact intakeStep_alarmSound hs h hc
  | pocket => exact pocketStep_alarmSound hs h hc

/-- Time ages the records and runs the siren's timers down, and stops none. -/
theorem AlarmSound.after_tick {s : State} (hs : AlarmSound s) : AlarmSound (tick s) := by
  have hp : announcedSets (s.pt.peers.map agePeer) = announcedSets s.pt.peers := by
    simp [announcedSets, Function.comp_def, agePeer]
  have hd : (tick s).alm.Driven :=
    ⟨hs.relay, by simpa [tick, count] using hs.timer, by simpa [tick, count] using hs.toggle, hs.pulse⟩
  exact hs.of_latches (hs.latches.of_driven rfl rfl hd rfl hp) rfl rfl

/-- Settles O53: every command and the passing of time keep the invariant, from any strap. -/
theorem alarmsStaySound : Obligations.AlarmsStaySound := by
  unfold Obligations.AlarmsStaySound
  intro s t hs _ h
  exact step_keeps (P := AlarmSound) (fun _ _ hs => hs.of_leaves (by simp)) (fun _ hs => hs.after_tick)
    (fun _ _ _ hs h => hs.after_exec h) hs h

end Sys2Proof.Machine
end
